-- ==== Sys2Proof/Word.lean ====
section
/-! DEFINITION. The plain word types of the S4: bytes and 16-bit words, station and channel numbers. -/

namespace Sys2Proof

/-- A byte on the share line or at the host port (chapter 7). -/
abbrev Byte := BitVec 8

/-- A 16-bit value that wraps or is compared as bits: an order number (R2), a digest (R13). -/
abbrev Word := BitVec 16

/-- A station number, 0-31 (R3). -/
abbrev Station := Fin 32

/-- A load channel, 0-3 (R182). -/
abbrev Channel := Fin 4

end Sys2Proof
end

