-- ==== Sys2Proof/Config.lean ====
section
/-! DEFINITION. What an installation fixes and what the spec leaves free: the configuration block (R157, R203) and the
two free values (logs 8 and 12). -/

namespace Sys2Proof

/-- The configuration block of R157, each field as it is encoded: eleven 16-bit numbers and three bytes (a threshold is
its temperature in degrees Celsius plus 40). It is stored as written, whatever the values (R202). -/
structure ConfigBlock where
  pool : Nat
  floor : Nat
  tPresence : Nat
  tQuar : Nat
  tRecall : Nat
  tIdle : Nat
  period : Nat
  rating0 : Nat
  rating1 : Nat
  rating2 : Nat
  rating3 : Nat
  hot : Nat
  cool : Nat
  cutoff : Nat
  deriving DecidableEq, Repr

/-- The defaults of R203, held after power-on and RESETN. -/
def ConfigBlock.defaults : ConfigBlock :=
  { pool := 100, floor := 0, tPresence := 100, tQuar := 40, tRecall := 200, tIdle := 500, period := 1000,
    rating0 := 100, rating1 := 100, rating2 := 100, rating3 := 100, hot := 140, cool := 130, cutoff := 165 }

/-- FREE VALUE (log 8): the order and the digest that an attempt carries when the station holds neither a table nor kept
values and the frame is no SYNCREQ. R139 names no value for that case. -/
opaque Config.freeWord : Nat → Word

/-- FREE VALUE (log 12): the die temperature the sensor gives at a sample that the part takes by itself (R177). -/
opaque Config.sensor : Nat → Int

end Sys2Proof
end

