-- ==== Sys2Proof/Syntax.lean ====
section
/-! DEFINITION. The commands the block takes: one constructor for each row of spec/opcode_table.json. -/

namespace Sys2Proof

/-- One character as a receiver reads it (R127): its eight data bits, and whether its stop bit read recessive. -/
structure RxChar where
  byte : Byte
  stop : Bool
  deriving DecidableEq, Repr

/-- The kinds of receive failure recorded by LIF (R130). -/
inductive FailKind where
  | framing
  | kind
  | length
  | check
  deriving DecidableEq, Repr

/-- The commands. Each is one whole step of the part (95_what_each_step_holds.md). -/
inductive Instr where
  /-- R216: supply is applied and power-on reset holds every block in reset. -/
  | powerOnReset
  /-- R216: the RESETN input goes low. -/
  | resetnLow
  /-- R216, R206: power-on reset or RESETN ends with these levels on the NUM and RATE straps. -/
  | resetEnd (num rate : Nat)
  /-- R196: chip select falls. -/
  | chipSelectFall
  /-- R196: chip select rises. -/
  | chipSelectRise
  /-- R196: a command byte that is no known code is complete. -/
  | unknownCommand (code : Byte)
  /-- R199: READ STATUS is taken. -/
  | readStatus
  /-- R28: READ ENTRY is taken. -/
  | readEntry (entry : Nat)
  /-- R28: READ WAIT LIST is taken. -/
  | readWaitList
  /-- R194: READ CHANNEL is taken. -/
  | readChannel (channel : Nat)
  /-- R199: READ CONFIG is taken. -/
  | readConfig
  /-- R199: READ FLAGS is taken. -/
  | readFlags
  /-- R209: POP EVENT is taken. -/
  | popEvent
  /-- R202: WRITE CONFIG is taken. -/
  | writeConfig (block : ConfigBlock)
  /-- R192: SET DEMAND is taken. -/
  | setDemand (channel demand : Nat)
  /-- R214: WRITE ENABLES is taken. -/
  | writeEnables (enables : Byte)
  /-- R213: CLEAR FLAGS is taken. -/
  | clearFlags (mask : Byte)
  /-- R191: CLEAR FAULT is taken. -/
  | clearFault (channel : Nat)
  /-- R200: START is taken. -/
  | start
  /-- R201: STOP is taken. -/
  | stop
  /-- R217: the host RESET command is taken. -/
  | reset
  /-- R135: LIF has read the line recessive for 20 bit times and takes a grid. -/
  | gridAcquired
  /-- R136: the station's own access slot begins on the idle line. -/
  | attemptStart
  /-- R137: the sender reads dominant where it sent recessive in its sender byte. -/
  | lostStart
  /-- R141: the sender byte of an attempt ends and the start was not lost. -/
  | senderByteEnd
  /-- R133: the verdict slot of a frame ends. The characters read, sender byte to check, and whether another station held
  the slot dominant. -/
  | frameReceived (chars : List RxChar) (objected : Bool)
  /-- R131: a frame ended before its kind's length; its first character as read. -/
  | truncatedFrame (first : RxChar)
  /-- R143: the eighth attempt of the request at the head of OQ ends void by another station's objection. -/
  | requestAbandoned
  /-- R134: the frame that brings the self-objection count to 8 ends; the receive failure found (for a foreign frame). -/
  | selfObjectionLimit (failure : FailKind)
  /-- R65. -/
  | listenTimerExpiry
  /-- R80. -/
  | presenceTimerExpiry
  /-- R81: the last-heard timer of this peer. -/
  | lastHeardTimerExpiry (peer : Station)
  /-- R83: the quarantine timer of this peer. -/
  | quarantineTimerExpiry (peer : Station)
  /-- R92, R72. -/
  | rejoinTimerExpiry
  /-- R51: the recall watch of this debtor. -/
  | recallTimerExpiry (debtor : Station)
  /-- R110. -/
  | syncTimerExpiry
  /-- R122. -/
  | doubtTimerExpiry
  /-- R169. -/
  | releaseIdleTimerExpiry
  /-- R167. -/
  | holdoffTimerExpiry
  /-- R177, R179: a sample of the die temperature, as the sensor reads it in whole degrees Celsius. -/
  | thermalSample (reading : Int)
  /-- R186: a period boundary. -/
  | periodBoundary
  /-- R190: the fault input of this channel goes low. -/
  | faultInputAsserted (channel : Channel)
  /-- R190: the fault input of this channel returns high. -/
  | faultInputReleased (channel : Channel)
  /-- R129: a start bit on the idle line begins a frame of another station; the first character as read. -/
  | frameReceptionStart (first : RxChar)
  /-- R196: the eighth clock edge completes a host port byte (the data input's eight bits). -/
  | hostByteComplete (data : Byte)
  deriving DecidableEq, Repr

end Sys2Proof
end

