-- ==== Sys2Proof/WellFormed.lean ====
section
/-! DEFINITION. Which commands can be sent as they stand: every number within the width its rule gives it. -/

namespace Sys2Proof

/-- Every field of the block fits its encoding of R157. -/
def ConfigBlock.fits (b : ConfigBlock) : Bool :=
  [b.pool, b.floor, b.tPresence, b.tQuar, b.tRecall, b.tIdle, b.period, b.rating0, b.rating1, b.rating2,
    b.rating3].all (· < 65536) && [b.hot, b.cool, b.cutoff].all (· < 256)

/-- The command codes of R156. -/
def knownCodes : List Byte :=
  [0x20, 0x21, 0x22, 0x23, 0x24, 0x25, 0x26, 0x40, 0x41, 0x42, 0x43, 0x44, 0x60, 0x61, 0x6F]

/-- The operands fit the straps (R206), the parameter bytes (R156), and a frame has at least its first character (R129);
an unknown command byte is none of the codes (R196). -/
def Instr.wellFormed (i : Instr) : Bool :=
  match i with
  | .resetEnd num rate => num < 32 && rate < 4
  | .unknownCommand code => !knownCodes.contains code
  | .readEntry entry => entry < 256
  | .readChannel channel => channel < 256
  | .writeConfig block => block.fits
  | .setDemand channel demand => channel < 256 && demand < 65536
  | .clearFault channel => channel < 256
  | .frameReceived chars _ => !chars.isEmpty
  | .powerOnReset | .resetnLow | .chipSelectFall | .chipSelectRise | .readStatus | .readWaitList | .readConfig
  | .readFlags | .popEvent | .writeEnables _ | .clearFlags _ | .start | .stop | .reset | .gridAcquired | .attemptStart
  | .lostStart | .senderByteEnd | .truncatedFrame _ | .requestAbandoned | .selfObjectionLimit _ | .listenTimerExpiry
  | .presenceTimerExpiry | .lastHeardTimerExpiry _ | .quarantineTimerExpiry _ | .rejoinTimerExpiry
  | .recallTimerExpiry _ | .syncTimerExpiry | .doubtTimerExpiry | .releaseIdleTimerExpiry | .holdoffTimerExpiry
  | .thermalSample _ | .periodBoundary | .faultInputAsserted _ | .faultInputReleased _ | .frameReceptionStart _
  | .hostByteComplete _ => true

end Sys2Proof
end

