-- ==== Sys2Proof/Machine/State.lean ====
section
/-! DEFINITION. All the state of one S4, block by block (00_scope.md section 3.3), its state after reset, and the reasons
a step can stop. Plain data throughout. -/

namespace Sys2Proof.Machine

/-- No command of this block stops the machine: the spec answers every refusal with a result byte (R156) and every
abnormal matter with an event, a phase or a flag. So no constructor: nobody raises a fault. -/
inductive Fault where
  deriving DecidableEq, Repr

/-- The one refusal: the host's fixed name for a row without a meaning. -/
inductive Refusal where
  /-- Raised only by an arm of exec whose row has no meaning; no arm uses it. Safe: nothing can be proved of a next state. -/
  | notModelled (mnemonic : String)
  deriving DecidableEq, Repr

/-! ## Timers -/

/-- A running timer: its length and the time it has run, in microseconds. A stopped timer is `none`. -/
structure Timer where
  length : Nat
  run : Nat
  deriving DecidableEq, Repr

/-! ## The share table (chapter 1) -/

/-- The state of an entry (R4). -/
inductive EntryState where
  | absent
  | present
  | lapsed
  deriving DecidableEq, Repr

/-- An entry of the table (R3). -/
structure Entry where
  state : EntryState
  floor : Nat
  holding : Nat
  recallDue : Nat
  deriving DecidableEq, Repr

/-- The ABSENT entry, with every field 0 (R4). -/
def Entry.empty : Entry := { state := .absent, floor := 0, holding := 0, recallDue := 0 }

/-- A wait-list record (R9). -/
structure WaitRecord where
  station : Station
  shortfall : Nat
  deriving DecidableEq, Repr

/-- The pool record once set (R1); the group interval in milliseconds. -/
structure PoolRecord where
  pool : Nat
  interval : Nat
  deriving DecidableEq, Repr

/-- The replicated content of a copy, what the canonical image stands for (R12). -/
structure Image where
  pool : Option PoolRecord
  entries : Vector Entry 32
  wait : List WaitRecord
  deriving DecidableEq, Repr

/-- A table copy: its content, the order counter N (R2) and the digest ST holds (R14). -/
structure Table where
  image : Image
  n : Word
  digest : Word
  deriving DecidableEq, Repr

/-! ## Frames and the outgoing queue (chapters 6 and 7) -/

/-- The nine frame kinds (00_scope.md section 6.2). -/
inductive FrameKind where
  | join
  | leave
  | present
  | claim
  | release
  | lapse
  | free
  | syncreq
  | snapshot
  deriving DecidableEq, Repr

/-- A frame's body by kind, each number as the line carries it, in range or not (R153). -/
inductive Body where
  | join (floor pool interval : Nat)
  | leave
  | present
  | claim (delta : Nat)
  | release (amount : Nat)
  | lapse (target cause : Nat)
  | free (target : Nat)
  | syncreq (attempt pool : Nat)
  | snapshot (joiner : Nat) (base : Word) (index : Nat) (data : List Byte)
  deriving DecidableEq, Repr

/-- A frame that passed the receive checks: header and body (R153). -/
structure Frame where
  sender : Station
  order : Word
  digest : Word
  body : Body
  deriving DecidableEq, Repr

/-- The blocks that make requests (R145); the Claim Arithmetic is named apart from MC for the LAPSE. -/
inductive Block where
  | mc
  | ca
  | ba
  | tu
  deriving DecidableEq, Repr

/-- A set of those blocks. -/
structure Blocks where
  mc : Bool
  ca : Bool
  ba : Bool
  tu : Bool
  deriving DecidableEq, Repr

/-- No block. -/
def Blocks.none : Blocks := { mc := false, ca := false, ba := false, tu := false }

/-- A request in OQ (R145): the body as last filled, its requesters, the attempt count, whether it is in transmission
(R141), and the withdrawals held while its first sender byte is on the line (R141, R148). -/
structure Request where
  body : Body
  requesters : Blocks
  attempts : Nat
  inTransmission : Bool
  heldWithdrawals : Blocks
  deriving DecidableEq, Repr

/-- An attempt on the line (R139): the characters being sent and whether the sender byte has ended (R141). -/
structure Attempt where
  bytes : List Byte
  senderByteEnded : Bool
  deriving DecidableEq, Repr

/-- LIF's receive and transmit state and its place in the rotation (R129, R135, R136). -/
inductive LineState where
  /-- no character grid yet, as after a reset -/
  | noGrid
  /-- the line is idle on the grid; microseconds since the end of the last verdict slot -/
  | slots (clock : Nat)
  /-- a frame of another station is on the line; its first character, once read -/
  | receiving (first : Option RxChar)
  /-- an attempt of this station is on the line -/
  | sending (attempt : Attempt)
  deriving DecidableEq, Repr

/-- The Line Interface and its Outgoing Queue. -/
structure Lif where
  line : LineState
  lastSender : Station
  selfObjection : Nat
  lineFaultOut : Nat
  lastFailure : Option FailKind
  kept : Option (Word × Word)
  objected : Bool
  queue : List Request
  waiting : Blocks
  deriving DecidableEq, Repr

/-- LIF after every reset (R151). -/
def Lif.reset : Lif :=
  { line := .noGrid, lastSender := 31, selfObjection := 0, lineFaultOut := 0, lastFailure := none, kept := none,
    objected := false, queue := [], waiting := .none }

/-! ## Claim Arithmetic: recall watches (section 2.6) -/

/-- A recall watch (R47). -/
inductive Watch where
  | idle
  | timing (timer : Timer)
  | requested
  | held
  | sending
  deriving DecidableEq, Repr

/-! ## Membership Controller (chapter 3) -/

/-- The station's phase (R61). -/
inductive Phase where
  | offline
  | listen
  | founding
  | syncing
  | joining
  | joined
  | leaving
  | out
  | fault
  deriving DecidableEq, Repr

/-- The phase causes, with DUPLICATE of the PHASE event (R61, R158). -/
inductive Cause where
  | reset
  | stopped
  | thermal
  | started
  | rejoin
  | quiet
  | heard
  | foundingAbandoned
  | installed
  | accepted
  | lapsed
  | diverged
  | lineFault
  | poolMismatch
  | duplicateNumber
  | syncFailed
  | duplicate
  deriving DecidableEq, Repr

/-- The Membership Controller. -/
structure Mc where
  phase : Phase
  cause : Cause
  listen : Option Timer
  presence : Option Timer
  rejoin : Option Timer
  lastHeard : Vector (Option Timer) 32
  quarantine : Vector (Option Timer) 32
  dupCount : Nat
  pendingStop : Option Cause
  awaitLeave : Bool
  held : List Body
  deriving DecidableEq, Repr

/-- No timer of any peer runs. -/
def noTimers : Vector (Option Timer) 32 := Vector.replicate 32 none

/-- MC after every reset (R95). -/
def Mc.reset : Mc :=
  { phase := .offline, cause := .reset, listen := none, presence := none, rejoin := none, lastHeard := noTimers,
    quarantine := noTimers, dupCount := 0, pendingStop := none, awaitLeave := false, held := [] }

/-! ## Transfer Unit (chapter 4) -/

/-- The joiner side's state (R96). -/
inductive JoinerState where
  | idle
  | asking
  | collecting
  deriving DecidableEq, Repr

/-- A catch-up record (R105): sender, kind, and the body; a marker has no body. -/
structure CatchUpRecord where
  sender : Station
  kind : FrameKind
  body : Option Body
  deriving DecidableEq, Repr

/-- The snapshot in the responder's buffer (R101, R102): the joiner, the base b, the image with its digest, and the index
of the next piece to be applied (R114). -/
structure Snapshot where
  joiner : Station
  base : Word
  image : Image
  digest : Word
  next : Nat
  deriving DecidableEq, Repr

/-- The Transfer Unit, joiner side and responder side. -/
structure Tu where
  joiner : JoinerState
  attempt : Nat
  sync : Option Timer
  catchUp : List CatchUpRecord
  pieces : List (List Byte)
  anchor : Option Word
  responder : Option Station
  base : Option Word
  syncreqHeld : Bool
  snapshot : Option Snapshot
  pieceHeld : Bool
  deriving DecidableEq, Repr

/-- TU after every reset (R115). -/
def Tu.reset : Tu :=
  { joiner := .idle, attempt := 0, sync := none, catchUp := [], pieces := [], anchor := none, responder := none,
    base := none, syncreqHeld := false, snapshot := none, pieceHeld := false }

/-! ## Agreement Checker (chapter 5) -/

/-- What disagreed (R118). -/
inductive Mismatch where
  | order
  | digest
  | both
  deriving DecidableEq, Repr

/-- The last-disagreement record (R116). -/
structure Disagreement where
  sender : Station
  kind : FrameKind
  order : Word
  digest : Word
  localN : Word
  localDigest : Word
  mismatch : Mismatch
  deriving DecidableEq, Repr

/-- The Agreement Checker. The doubt set holds at most one station between applications (R116). -/
structure Ac where
  doubt : Option Station
  timer : Option Timer
  last : Option Disagreement
  deriving DecidableEq, Repr

/-- AC after every reset (R116). -/
def Ac.reset : Ac := { doubt := none, timer := none, last := none }

/-! ## Budget Agent, Thermal Monitor, Channel Outputs (chapters 8 and 9) -/

/-- The claim side (section 8.2). -/
inductive ClaimSide where
  | none
  | held
  | queued
  | sending
  | holdoff
  deriving DecidableEq, Repr

/-- The release side (section 8.3). -/
inductive ReleaseSide where
  | none
  | held
  | queued
  | sending
  deriving DecidableEq, Repr

/-- The Budget Agent. -/
structure Ba where
  demand : Nat
  cap : Nat
  claim : ClaimSide
  release : ReleaseSide
  idleTimer : Option Timer
  idleMark : Bool
  holdoff : Option Timer
  bound : Option Nat
  boundarySeen : Bool
  zeroReported : Bool
  deriving DecidableEq, Repr

/-- BA after every reset (R176). -/
def Ba.reset : Ba :=
  { demand := 0, cap := 0, claim := .none, release := .none, idleTimer := none, idleMark := false, holdoff := none,
    bound := none, boundarySeen := false, zeroReported := false }

/-- TM's state (section 8.6). -/
inductive Thermal where
  | normal
  | derated
  | cut
  deriving DecidableEq, Repr

/-- The Thermal Monitor; `clock` counts the microseconds since the last sample or reset (R177). -/
structure Tm where
  state : Thermal
  sample : Option Int
  clock : Nat
  deriving DecidableEq, Repr

/-- TM after every reset (R181). -/
def Tm.reset : Tm := { state := .normal, sample := none, clock := 0 }

/-- One load channel (R182); the rating in use stands in `State.inUse`. -/
structure Load where
  demand : Nat
  staged : Nat
  applied : Nat
  faulted : Bool
  input : Bool
  deriving DecidableEq, Repr

/-- The Channel Outputs: four channels and the period counter (R182). -/
structure Co where
  channels : Vector Load 4
  counter : Nat
  deriving DecidableEq, Repr

/-- A channel after a reset whose end finds its fault input at this level (R195). -/
def Load.reset (input : Bool) : Load := { demand := 0, staged := 0, applied := 0, faulted := input, input := input }

/-! ## Host Port (chapter 10) -/

/-- The event kinds (R159). -/
inductive EventKind where
  | granted
  | surplusRefused
  | waiting
  | served
  | released
  | recalled
  | peerJoined
  | peerLeft
  | peerLapsed
  | peerFreed
  | floorTrimmed
  | phase
  | frameAbandoned
  | thermal
  | channelFault
  deriving DecidableEq, Repr

/-- An event record (R159, R207). -/
structure EventRecord where
  kind : EventKind
  station : Nat
  amount : Nat
  cause : Nat
  lostAfter : Bool
  deriving DecidableEq, Repr

/-- The transaction state (R196): PARAMETERS with the command byte and the parameter bytes collected, RESPONSE with the
bytes still to be clocked out. -/
inductive Port where
  | idle
  | command
  | parameters (code : Byte) (got : List Byte)
  | response (rest : List Byte)
  | drain
  deriving DecidableEq, Repr

/-- The Host Port. `csLow` is the chip select pin; `dataOut` the byte last driven on the data output. -/
structure Hp where
  port : Port
  csLow : Bool
  dataOut : Option Byte
  stored : ConfigBlock
  events : List EventRecord
  flags : Byte
  enables : Byte
  deriving DecidableEq, Repr

/-! ## The station -/

/-- One S4. `inUse` is the configuration the blocks took at the last START (R205); `free` is the model's own counter for
the free values (logs 8 and 12); `pending` is the queue of waiting commands, first in first out. -/
structure State where
  num : Station
  rate : Fin 4
  inReset : Bool
  inUse : ConfigBlock
  table : Option Table
  watches : Vector Watch 32
  mc : Mc
  tu : Tu
  ac : Ac
  lif : Lif
  ba : Ba
  tm : Tm
  co : Co
  hp : Hp
  free : Nat
  pending : List Instr
  deriving DecidableEq, Repr

/-- Every recall watch IDLE (R47). -/
def noWatches : Vector Watch 32 := Vector.replicate 32 .idle

/-- HP after power-on and RESETN with chip select at this level (R218). -/
def Hp.reset (csLow : Bool) : Hp :=
  { port := .idle, csLow := csLow, dataOut := none, stored := .defaults, events := [], flags := 0, enables := 0 }

/-- The machine right after power-on reset ends (R218), straps 0, fault inputs high, chip select high (log 3), the queue
empty. -/
def State.reset : State :=
  { num := 0, rate := 0, inReset := false, inUse := .defaults, table := none, watches := noWatches, mc := .reset,
    tu := .reset, ac := .reset, lif := .reset, ba := .reset, tm := .reset,
    co := { channels := Vector.replicate 4 (Load.reset false), counter := 0 },
    hp := Hp.reset false, free := 0, pending := [] }

end Sys2Proof.Machine
end

