-- ==== Sys2Proof/Machine/Bytes.lean ====
section
/-! DEFINITION. Byte order (chapter 7: high byte first), the CRC of R13, and tables of a fixed number of like things. -/

namespace Sys2Proof.Machine

/-- The high byte of a 16-bit number. -/
def hiByte (n : Nat) : Byte := BitVec.ofNat 8 (n / 256)

/-- The low byte of a number. -/
def loByte (n : Nat) : Byte := BitVec.ofNat 8 n

/-- A 16-bit number on the line or at the host port: high byte first. -/
def bytes2 (n : Nat) : List Byte := [hiByte n, loByte n]

/-- A 16-bit word, high byte first. -/
def wordBytes (w : Word) : List Byte := bytes2 w.toNat

/-- The number that two bytes carry, high byte first. -/
def natOf2 (hi lo : Byte) : Nat := hi.toNat * 256 + lo.toNat

/-- The word that two bytes carry, high byte first. -/
def wordOf2 (hi lo : Byte) : Word := BitVec.ofNat 16 (natOf2 hi lo)

/-- A flag byte: 1 when set (R157, R158). -/
def boolByte (b : Bool) : Byte := if b then 1 else 0

/-- One data bit of the CRC of R13. -/
def crcBit (r : Word) (d : Bool) : Word :=
  if r.msb ^^ d then (r <<< 1) ^^^ 0x1021 else r <<< 1

/-- One byte of the CRC, its bits from the most significant (R13). -/
def crcByte (r : Word) (b : Byte) : Word :=
  [7, 6, 5, 4, 3, 2, 1, 0].foldl (fun r i => crcBit r (b.getLsbD i)) r

/-- The CRC of R13 over a byte sequence. -/
def crc16 (bytes : List Byte) : Word := bytes.foldl crcByte 0xFFFF

/-- The table whose place `i` holds `f i`. -/
def tabulate (n : Nat) (f : Fin n → α) : Vector α n := ⟨⟨(List.finRange n).map f⟩, by simp⟩

/-- The station numbers in ascending order (00_scope.md section 6.3). -/
def stations : List Station := List.finRange 32

/-- A station number as the byte field carries it, when it is one. -/
def stationOf (n : Nat) : Option Station := if h : n < 32 then some ⟨n, h⟩ else none

/-! ## Timers (00_scope.md section 6.4) -/

/-- A timer started at full length, the length in milliseconds. -/
def startMs (ms : Nat) : Option Timer := some { length := ms * 1000, run := 0 }

end Sys2Proof.Machine
end

