-- ==== Sys2Proof/Machine/Formats.lean ====
section
/-! DEFINITION. The byte layouts of chapter 7: line frames, the canonical image, snapshot pieces, the configuration block,
and the codes that status and event records carry. -/

namespace Sys2Proof.Machine

/-! ## Line frames (R128, R153) -/

/-- The kind of a body. -/
def Body.kind (b : Body) : FrameKind :=
  match b with
  | .join _ _ _ => .join
  | .leave => .leave
  | .present => .present
  | .claim _ => .claim
  | .release _ => .release
  | .lapse _ _ => .lapse
  | .free _ => .free
  | .syncreq _ _ => .syncreq
  | .snapshot _ _ _ _ => .snapshot

/-- The target of a request: the target station of a LAPSE or FREE, none for every other kind (R145). -/
def Body.target (b : Body) : Option Nat :=
  match b with
  | .lapse target _ => some target
  | .free target => some target
  | _ => none

/-- The kind codes of R153. -/
def kindCode (k : FrameKind) : Byte :=
  match k with
  | .join => 0x11
  | .leave => 0x12
  | .present => 0x13
  | .claim => 0x21
  | .release => 0x22
  | .lapse => 0x31
  | .free => 0x32
  | .syncreq => 0x41
  | .snapshot => 0x42

/-- The nine kinds. -/
def frameKinds : List FrameKind :=
  [.join, .leave, .present, .claim, .release, .lapse, .free, .syncreq, .snapshot]

/-- The kind a code names, when it names one (R130, KIND). -/
def kindOfCode (code : Byte) : Option FrameKind := frameKinds.find? (fun k => kindCode k == code)

/-- The body length of a kind in characters (R128). -/
def bodyLength (k : FrameKind) : Nat :=
  match k with
  | .join => 6
  | .leave => 0
  | .present => 0
  | .claim => 2
  | .release => 2
  | .lapse => 2
  | .free => 1
  | .syncreq => 3
  | .snapshot => 68

/-- The characters of a frame, sender to check (R128). -/
def frameLength (k : FrameKind) : Nat := bodyLength k + 8

/-- The LAPSE cause codes (R153). -/
def lapseSilent : Nat := 1
def lapseRecall : Nat := 2

/-- A body as the line carries it (R153). -/
def encodeBody (b : Body) : List Byte :=
  match b with
  | .join floor pool interval => bytes2 floor ++ bytes2 pool ++ bytes2 interval
  | .leave => []
  | .present => []
  | .claim delta => bytes2 delta
  | .release amount => bytes2 amount
  | .lapse target cause => [loByte target, loByte cause]
  | .free target => [loByte target]
  | .syncreq attempt pool => loByte attempt :: bytes2 pool
  | .snapshot joiner base index data => loByte joiner :: wordBytes base ++ loByte index :: data

/-- The body that a kind's body bytes carry (R153); none when their number is not the kind's. -/
def decodeBody (k : FrameKind) (bs : List Byte) : Option Body :=
  match k, bs with
  | .join, [f1, f0, p1, p0, i1, i0] => some (.join (natOf2 f1 f0) (natOf2 p1 p0) (natOf2 i1 i0))
  | .leave, [] => some .leave
  | .present, [] => some .present
  | .claim, [d1, d0] => some (.claim (natOf2 d1 d0))
  | .release, [a1, a0] => some (.release (natOf2 a1 a0))
  | .lapse, [t, c] => some (.lapse t.toNat c.toNat)
  | .free, [t] => some (.free t.toNat)
  | .syncreq, [a, p1, p0] => some (.syncreq a.toNat (natOf2 p1 p0))
  | .snapshot, j :: b1 :: b0 :: i :: data =>
    if data.length = 64 then some (.snapshot j.toNat (wordOf2 b1 b0) i.toNat data) else none
  | _, _ => none

/-- Header and body of a frame (R153), without the check. -/
def encodeContent (f : Frame) : List Byte :=
  BitVec.ofNat 8 f.sender.val :: kindCode f.body.kind :: wordBytes f.order ++ wordBytes f.digest ++ encodeBody f.body

/-- The characters of a frame from sender byte to check (R128). -/
def encodeFrame (f : Frame) : List Byte :=
  encodeContent f ++ wordBytes (crc16 (encodeContent f))

/-- The frame that header and body bytes carry; none when they do not make one. -/
def decodeContent (bs : List Byte) : Option Frame :=
  match bs with
  | s :: k :: o1 :: o0 :: d1 :: d0 :: rest =>
    match stationOf s.toNat, kindOfCode k with
    | some sender, some kind =>
      match decodeBody kind rest with
      | some body => some { sender := sender, order := wordOf2 o1 o0, digest := wordOf2 d1 d0, body := body }
      | none => none
    | _, _ => none
  | _ => none

/-! ## The canonical image (R12, R154) -/

/-- The entry state codes (R154). -/
def entryStateCode (e : EntryState) : Nat :=
  match e with
  | .absent => 0
  | .present => 1
  | .lapsed => 2

/-- An entry in the image (R154). -/
def entryBytes (e : Entry) : List Byte :=
  loByte (entryStateCode e.state) :: bytes2 e.floor ++ bytes2 e.holding ++ bytes2 e.recallDue

/-- A wait-list record in the image and in the wait-list record of the host (R154, R157). -/
def waitBytes (w : WaitRecord) : List Byte := BitVec.ofNat 8 w.station.val :: bytes2 w.shortfall

/-- P and group interval, 0 while unset (R12). -/
def poolBytes (p : Option PoolRecord) : List Byte :=
  match p with
  | some r => bytes2 r.pool ++ bytes2 r.interval
  | none => bytes2 0 ++ bytes2 0

/-- The canonical image of R154. -/
def Image.bytes (img : Image) : List Byte :=
  poolBytes img.pool ++ img.entries.toList.flatMap entryBytes ++
    loByte img.wait.length :: img.wait.flatMap waitBytes

/-- The digest of R13 and R14. -/
def Image.crc (img : Image) : Word := crc16 img.bytes

/-! ## Snapshot pieces (R102, R155) -/

/-- The shortfall of a station's wait-list record, 0 when it has none (R102). -/
def shortfallOf (wait : List WaitRecord) (k : Station) : Nat :=
  match wait.find? (fun w => w.station == k) with
  | some w => w.shortfall
  | none => 0

/-- A packed entry: state in 4 bits, floor, holding, recall_due and wait shortfall in 12 bits each, 4 bits 0 (R155). -/
def packEntry (e : Entry) (shortfall : Nat) : List Byte :=
  [loByte (entryStateCode e.state * 16 + e.floor / 256 % 16), loByte e.floor, loByte (e.holding / 16),
    loByte (e.holding % 16 * 16 + e.recallDue / 256 % 16), loByte e.recallDue, loByte (shortfall / 16),
    loByte (shortfall % 16 * 16)]

/-- The 64 bytes of piece data of one piece (R155). -/
def pieceData (img : Image) (digest : Word) (index : Nat) : List Byte :=
  if index < 4 then
    poolBytes img.pool ++
      ((stations.drop (8 * index)).take 8).flatMap (fun k => packEntry img.entries[k] (shortfallOf img.wait k)) ++
      List.replicate 4 0
  else
    loByte img.wait.length :: img.wait.map (fun w => BitVec.ofNat 8 w.station.val) ++
      List.replicate (32 - img.wait.length) 0xFF ++ wordBytes digest ++ List.replicate 29 0

/-- An entry and its wait shortfall as a piece carries them. -/
structure PackedEntry where
  entry : Entry
  shortfall : Nat
  deriving DecidableEq, Repr

/-- The entry state a 4-bit code names, when it names one (R155). -/
def entryStateOfCode (c : Nat) : Option EntryState :=
  match c with
  | 0 => some .absent
  | 1 => some .present
  | 2 => some .lapsed
  | _ => none

/-- A packed entry read back; none when a field does not meet the checks of R155. -/
def unpackEntry (bs : List Byte) : Option PackedEntry :=
  match bs with
  | [b0, b1, b2, b3, b4, b5, b6] =>
    let floor := b0.toNat % 16 * 256 + b1.toNat
    let holding := b2.toNat * 16 + b3.toNat / 16
    let recallDue := b3.toNat % 16 * 256 + b4.toNat
    let shortfall := b5.toNat * 16 + b6.toNat / 16
    match entryStateOfCode (b0.toNat / 16) with
    | some st =>
      if floor ≤ 4000 ∧ holding ≤ 4000 ∧ recallDue ≤ 4000 ∧ shortfall ≤ 4000 then
        some { entry := { state := st, floor := floor, holding := holding, recallDue := recallDue },
               shortfall := shortfall }
      else none
    | none => none
  | _ => none

/-! ## The configuration block (R157) -/

/-- The 25 bytes of the block. -/
def configBytes (c : ConfigBlock) : List Byte :=
  bytes2 c.pool ++ bytes2 c.floor ++ bytes2 c.tPresence ++ bytes2 c.tQuar ++ bytes2 c.tRecall ++ bytes2 c.tIdle ++
    bytes2 c.period ++ bytes2 c.rating0 ++ bytes2 c.rating1 ++ bytes2 c.rating2 ++ bytes2 c.rating3 ++
    [loByte c.hot, loByte c.cool, loByte c.cutoff]

/-- The block that 25 bytes carry; none for another number of bytes. -/
def configOfBytes (bs : List Byte) : Option ConfigBlock :=
  match bs with
  | [p1, p0, f1, f0, tp1, tp0, tq1, tq0, tr1, tr0, ti1, ti0, pe1, pe0, a1, a0, b1, b0, c1, c0, d1, d0, h, c, x] =>
    some
      { pool := natOf2 p1 p0, floor := natOf2 f1 f0, tPresence := natOf2 tp1 tp0, tQuar := natOf2 tq1 tq0,
        tRecall := natOf2 tr1 tr0, tIdle := natOf2 ti1 ti0, period := natOf2 pe1 pe0, rating0 := natOf2 a1 a0,
        rating1 := natOf2 b1 b0, rating2 := natOf2 c1 c0, rating3 := natOf2 d1 d0, hot := h.toNat, cool := c.toNat,
        cutoff := x.toNat }
  | _ => none

/-- The rating of a channel. -/
def rating (c : ConfigBlock) (ch : Channel) : Nat :=
  match ch with
  | 0 => c.rating0
  | 1 => c.rating1
  | 2 => c.rating2
  | 3 => c.rating3

/-- The checks that START makes on the stored block (R204). -/
def configValid (c : ConfigBlock) : Bool :=
  (1 ≤ c.pool && c.pool ≤ 4000) && (c.floor ≤ 4000 && c.floor ≤ c.pool) &&
    (10 ≤ c.tPresence && c.tPresence ≤ 1000 && c.tPresence % 10 == 0) && (5 ≤ c.tQuar && c.tQuar ≤ 500) &&
    (10 ≤ c.tRecall && c.tRecall ≤ 2000) && c.tIdle ≤ 5000 &&
    (50 ≤ c.period && c.period ≤ 10000 && c.period % 50 == 0) &&
    [c.rating0, c.rating1, c.rating2, c.rating3].all (fun r => 1 ≤ r && r ≤ 1000) &&
    [c.hot, c.cool, c.cutoff].all (· ≤ 190) && (c.cool < c.hot && c.hot < c.cutoff)

/-! ## Codes of the status and event records (R158, R159) -/

/-- The phase codes of R158. -/
def phaseCode (p : Phase) : Nat :=
  match p with
  | .offline => 0
  | .listen => 1
  | .founding => 2
  | .syncing => 3
  | .joining => 4
  | .joined => 5
  | .leaving => 6
  | .out => 7
  | .fault => 8

/-- The phase cause codes of R158. -/
def causeCode (c : Cause) : Nat :=
  match c with
  | .reset => 0x00
  | .stopped => 0x01
  | .thermal => 0x02
  | .started => 0x03
  | .rejoin => 0x04
  | .quiet => 0x05
  | .heard => 0x06
  | .foundingAbandoned => 0x07
  | .installed => 0x08
  | .accepted => 0x09
  | .lapsed => 0x0A
  | .diverged => 0x0B
  | .lineFault => 0x0C
  | .poolMismatch => 0x0D
  | .duplicateNumber => 0x0E
  | .syncFailed => 0x0F
  | .duplicate => 0x10

/-- The thermal state codes of R158. -/
def thermalCode (t : Thermal) : Nat :=
  match t with
  | .normal => 0
  | .derated => 1
  | .cut => 2

/-- The failure kind codes of R158, 0 for none. -/
def failureCode (f : Option FailKind) : Nat :=
  match f with
  | none => 0
  | some .framing => 1
  | some .kind => 2
  | some .length => 3
  | some .check => 4

/-- The mismatch codes of R158. -/
def mismatchCode (m : Mismatch) : Nat :=
  match m with
  | .order => 1
  | .digest => 2
  | .both => 3

/-- The joiner state codes of R158. -/
def joinerCode (j : JoinerState) : Nat :=
  match j with
  | .idle => 0
  | .asking => 1
  | .collecting => 2

/-- The event kind codes of R159. -/
def eventCode (k : EventKind) : Byte :=
  match k with
  | .granted => 0x01
  | .surplusRefused => 0x02
  | .waiting => 0x03
  | .served => 0x04
  | .released => 0x05
  | .recalled => 0x06
  | .peerJoined => 0x07
  | .peerLeft => 0x08
  | .peerLapsed => 0x09
  | .peerFreed => 0x0A
  | .floorTrimmed => 0x0B
  | .phase => 0x0C
  | .frameAbandoned => 0x0D
  | .thermal => 0x0E
  | .channelFault => 0x0F

/-- A temperature at the host: degrees Celsius plus 40 (R157). -/
def tempCode (t : Int) : Nat := (t + 40).toNat

/-- An event record of 7 bytes (R159). -/
def eventBytes (e : EventRecord) : List Byte :=
  eventCode e.kind :: loByte e.station :: bytes2 e.amount ++ bytes2 e.cause ++ [boolByte e.lostAfter]

end Sys2Proof.Machine
end

