-- ==== Sys2Proof/Machine/Flags.lean ====
section
/-! DEFINITION. The event queue, the request flags, the enables and ATTN (sections 10.4 and 10.5). -/

namespace Sys2Proof.Machine

/-! ## Flag bits (R156: QUEUE at bit 7 down to BUDGET at bit 0) -/

def flagBudget : Byte := 0x01
def flagRecall : Byte := 0x02
def flagPeers : Byte := 0x04
def flagPhase : Byte := 0x08
def flagLine : Byte := 0x10
def flagThermal : Byte := 0x20
def flagChannel : Byte := 0x40
def flagQueue : Byte := 0x80

/-- The flag of an event's class (R212). -/
def classFlag (k : EventKind) : Byte :=
  match k with
  | .granted => flagBudget
  | .surplusRefused => flagBudget
  | .waiting => flagBudget
  | .served => flagBudget
  | .released => flagBudget
  | .floorTrimmed => flagBudget
  | .recalled => flagRecall
  | .peerJoined => flagPeers
  | .peerLeft => flagPeers
  | .peerLapsed => flagPeers
  | .peerFreed => flagPeers
  | .phase => flagPhase
  | .frameAbandoned => flagLine
  | .thermal => flagThermal
  | .channelFault => flagChannel

/-- The most records the event queue holds (R207). -/
def eventCapacity : Nat := 16

/-- The newest record marked as having lost a post after it (R208). -/
def markLast (es : List EventRecord) : List EventRecord :=
  match es with
  | [] => []
  | [e] => [{ e with lostAfter := true }]
  | e :: rest => e :: markLast rest

/-- A post: the record joins the tail while there is room (R207), else it is dropped, the tail marked and QUEUE set
(R208); the flag of its class is set in both cases (R212). -/
def Hp.post (hp : Hp) (kind : EventKind) (station amount cause : Nat) : Hp :=
  if hp.events.length < eventCapacity then
    { hp with
      events := hp.events ++ [{ kind := kind, station := station, amount := amount, cause := cause, lostAfter := false }]
      flags := hp.flags ||| classFlag kind }
  else
    { hp with events := markLast hp.events, flags := hp.flags ||| classFlag kind ||| flagQueue }

/-- A post by any block of the station. -/
def post (kind : EventKind) (station amount cause : Nat) (s : State) : State :=
  { s with hp := s.hp.post kind station amount cause }

/-- A post whose station field is the own station number (R159). -/
def postOwn (kind : EventKind) (amount cause : Nat) (s : State) : State := post kind s.num.val amount cause s

/-- ATTN is asserted (R215); while a reset is in force it is deasserted (R216). -/
def State.attn (s : State) : Bool := !s.inReset && (s.hp.flags &&& s.hp.enables) != 0

end Sys2Proof.Machine
end

