-- ==== Sys2Proof/Machine/TableArith.lean ====
section
/-! DEFINITION. The arithmetic of the share table: the effect of each frame kind on the replicated content of a copy
(chapters 1 to 4). Everything here is a function of the frame and the copy alone (R30). -/

namespace Sys2Proof.Machine

/-! ## Reading a copy -/

/-- Units that count against the pool: the holding of a PRESENT or LAPSED entry (R6). -/
def Entry.counted (e : Entry) : Nat := if e.state = .absent then 0 else e.holding

/-- The floor an entry reserves: that of an entry that is not ABSENT (R5). -/
def Entry.reserved (e : Entry) : Nat := if e.state = .absent then 0 else e.floor

/-- The sum over the 32 entries. -/
def Image.sumOver (img : Image) (f : Entry → Nat) : Nat := (img.entries.toList.map f).sum

/-- The pool P, 0 while unset. -/
def Image.poolUnits (img : Image) : Nat :=
  match img.pool with
  | some p => p.pool
  | none => 0

/-- Free units, derived at each use (R6). -/
def Image.freeUnits (img : Image) : Nat := img.poolUnits - img.sumOver Entry.counted

/-- The entry of a station is PRESENT. -/
def Image.isPresent (img : Image) (k : Station) : Bool := img.entries[k].state == .present

/-- A station has a wait-list record (R9). -/
def Image.waits (img : Image) (k : Station) : Bool := img.wait.any (fun w => w.station == k)

/-- The image with entry `k` replaced. -/
def Image.setEntry (img : Image) (k : Station) (e : Entry) : Image := { img with entries := img.entries.set k e }

/-- The empty content of R18: pool unset, every entry ABSENT, no record. -/
def Image.empty : Image := { pool := none, entries := Vector.replicate 32 Entry.empty, wait := [] }

/-! ## Serving (R44 to R46) -/

/-- One service: the record's station, the units given, whether the record was removed (R46). -/
structure Service where
  station : Station
  units : Nat
  removed : Bool
  deriving DecidableEq, Repr

/-- What serving answers of a wait list: the services, the list after, the units left (R44). -/
structure Served where
  services : List Service
  wait : List WaitRecord
  left : Nat
  deriving DecidableEq, Repr

/-- The walk of R44 from the head with `u` units. -/
def serveList (u : Nat) (wait : List WaitRecord) : Served :=
  match wait with
  | [] => { services := [], wait := [], left := u }
  | w :: rest =>
    if u = 0 then { services := [], wait := w :: rest, left := 0 }
    else if w.shortfall ≤ u then
      let r := serveList (u - w.shortfall) rest
      { r with services := { station := w.station, units := w.shortfall, removed := true } :: r.services }
    else
      { services := [{ station := w.station, units := u, removed := false }],
        wait := { w with shortfall := w.shortfall - u } :: rest, left := 0 }

/-- Units added to a station's holding. -/
def Image.addHolding (img : Image) (k : Station) (u : Nat) : Image :=
  img.setEntry k { img.entries[k] with holding := img.entries[k].holding + u }

/-- The holdings raised by a list of services. -/
def Image.applyServices (img : Image) (services : List Service) : Image :=
  services.foldl (fun img v => img.addHolding v.station v.units) img

/-- Serving `u` units that have just left a holding (R44): the units left over are free, since no holding counts them. -/
def Image.serve (img : Image) (u : Nat) : Image × Served :=
  let r := serveList u img.wait
  ({ img with wait := r.wait }.applyServices r.services, r)

/-! ## Recall assignment (R37 to R39) -/

/-- The surplus of an entry a recall may take (R38). -/
def Entry.available (e : Entry) : Nat := e.holding - e.floor - e.recallDue

/-- The order of R38: the larger surplus first, the higher station number first where they are equal. -/
def candidateBefore (img : Image) (a b : Station) : Bool :=
  decide (img.entries[b].available < img.entries[a].available ∨
    (img.entries[a].available = img.entries[b].available ∧ b ≤ a))

/-- The candidates for an assignment after a claim of station `k`, in the order of R38. -/
def Image.candidates (img : Image) (k : Station) : List Station :=
  (stations.filter (fun j => j != k && img.isPresent j && 0 < img.entries[j].available)).insertionSort
    (fun a b => candidateBefore img a b = true)

/-- The distribution of a need over candidates with their surpluses (R39): the units each is assigned. -/
def distribute (need : Nat) (candidates : List (Station × Nat)) : List (Station × Nat) :=
  match candidates with
  | [] => []
  | (j, av) :: rest => if need = 0 then [] else (j, min av need) :: distribute (need - min av need) rest

/-- Units added to a station's recall_due. -/
def Image.addRecall (img : Image) (k : Station) (u : Nat) : Image :=
  img.setEntry k { img.entries[k] with recallDue := img.entries[k].recallDue + u }

/-- The need of R37: the units waited for that no debt covers. -/
def Image.recallNeed (img : Image) : Nat :=
  (img.wait.map (·.shortfall)).sum - img.sumOver (·.recallDue)

/-- The assignments made after a record of station `k` has been appended (R37 to R39). -/
def Image.assignments (img : Image) (k : Station) : List (Station × Nat) :=
  distribute img.recallNeed ((img.candidates k).map (fun j => (j, img.entries[j].available)))

/-- The recall assignment made as the last part of a CLAIM that appended a record (R37). -/
def Image.assignRecall (img : Image) (k : Station) : Image × List (Station × Nat) :=
  ((img.assignments k).foldl (fun img a => img.addRecall a.1 a.2) img, img.assignments k)

/-! ## CLAIM (R31 to R36) -/

/-- The reason of a refused part (R36), with the codes of R159. -/
inductive ClaimReason where
  | alreadyWaiting
  | debtor
  | listNotEmpty
  | poolShort
  deriving DecidableEq, Repr

/-- The outcome of a CLAIM (R36). -/
structure ClaimOutcome where
  delta : Nat
  granted : Nat
  guaranteed : Nat
  surplus : Nat
  queued : Nat
  refused : Nat
  reason : Option ClaimReason
  assigned : List (Station × Nat)
  deriving DecidableEq, Repr

/-- The guaranteed part of a claim by an entry (R32). -/
def guaranteedPart (e : Entry) (delta : Nat) : Nat := min delta (e.floor - e.holding)

/-- The units granted at once (R33 to R35): from the free units while nobody waits, the surplus part only to a claimant
that owes nothing. -/
def grantedUnits (img : Image) (k : Station) (delta : Nat) : Nat :=
  let e := img.entries[k]
  let g := guaranteedPart e delta
  let s := if 0 < e.recallDue then 0 else delta - g
  if img.wait.isEmpty then min (g + s) img.freeUnits else 0

/-- The reason for the refused part (R33, R34, R35). -/
def refusalReason (img : Image) (k : Station) (refused : Nat) : Option ClaimReason :=
  if refused = 0 then none
  else if 0 < img.entries[k].recallDue then some .debtor
  else if img.wait.isEmpty then some .poolShort
  else some .listNotEmpty

/-- A record appended at the tail of the wait list (R9). -/
def Image.append (img : Image) (k : Station) (shortfall : Nat) : Image :=
  { img with wait := img.wait ++ [{ station := k, shortfall := shortfall }] }

/-- The CLAIM effect (R31 to R36). -/
def Image.claim (img : Image) (k : Station) (delta : Nat) : Image × ClaimOutcome :=
  if img.waits k then
    (img, { delta := delta, granted := 0, guaranteed := 0, surplus := 0, queued := 0, refused := delta,
            reason := some .alreadyWaiting, assigned := [] })
  else
    let g := guaranteedPart img.entries[k] delta
    let a := grantedUnits img k delta
    let queued := g - a
    let refused := delta - a - queued
    let granted := img.addHolding k a
    let r :=
      if 0 < queued then
        (granted.append k queued).assignRecall k
      else (granted, [])
    (r.1, { delta := delta, granted := a, guaranteed := min g a, surplus := a - min g a, queued := queued,
            refused := refused, reason := refusalReason img k refused, assigned := r.2 })

/-! ## RELEASE (R41 to R43) -/

/-- The outcome of a RELEASE (R43); `before` is the recall_due before. -/
structure ReleaseOutcome where
  amount : Nat
  released : Nat
  before : Nat
  after : Nat
  served : Served
  deriving DecidableEq, Repr

/-- The RELEASE effect (R41, R42). -/
def Image.release (img : Image) (k : Station) (amount : Nat) : Image × ReleaseOutcome :=
  let e := img.entries[k]
  let x := min amount e.holding
  let r := (img.setEntry k { e with holding := e.holding - x, recallDue := e.recallDue - x }).serve x
  (r.1, { amount := amount, released := x, before := e.recallDue, after := e.recallDue - x, served := r.2 })

/-! ## Membership effects (R74 to R77) -/

/-- The reason of a refused JOIN (R74). -/
inductive JoinRefusal where
  | poolMismatch
  | duplicate
  | lapsed
  deriving DecidableEq, Repr

/-- The image with the record of a station removed from the wait list, the others in their order (R9). -/
def Image.dropRecord (img : Image) (k : Station) : Image :=
  { img with wait := img.wait.filter (fun w => w.station != k) }

/-- The image with its pool record set by a JOIN when it was unset (R1). -/
def Image.setPool (img : Image) (pool interval : Nat) : Image :=
  match img.pool with
  | some _ => img
  | none => { img with pool := some { pool := pool, interval := interval } }

/-- The floor a JOIN is granted (R5, R74). -/
def Image.grantedFloor (img : Image) (floor : Nat) : Nat := min floor (img.poolUnits - img.sumOver Entry.reserved)

/-- Why a JOIN of station `k` is refused, once the pool record is set (R74). -/
def Image.joinRefusal (img : Image) (k : Station) (pool interval : Nat) : Option JoinRefusal :=
  if img.pool ≠ some { pool := pool, interval := interval } then some .poolMismatch
  else
    match img.entries[k].state with
    | .present => some .duplicate
    | .lapsed => some .lapsed
    | .absent => none

/-- The result of the responder selection (R99): SELECTED with a station, or NO_RESPONDER with its reason. -/
inductive Selection where
  | station (k : Station)
  | poolMismatch
  | nonePresent
  deriving DecidableEq, Repr

/-- What an applied frame's effect was, for the notice of R27. -/
inductive Effect where
  /-- "no effect, sender" (R22) -/
  | noSender
  /-- "no effect, range" (R23) -/
  | noRange
  | joined (requested granted : Nat)
  | joinRefused (reason : JoinRefusal)
  | left (before : EntryState) (units : Nat) (served : Served)
  | lapsed (target : Station) (kept cause : Nat)
  | notPresent
  | freed (target : Station) (units : Nat) (served : Served)
  | notLapsed
  | claimed (outcome : ClaimOutcome)
  | released (outcome : ReleaseOutcome)
  /-- no table effect: PRESENT and SNAPSHOT (R22, R24) -/
  | noTable
  /-- R99: the responder selection's result -/
  | selected (result : Selection)
  deriving DecidableEq, Repr

/-- The JOIN effect (R74). -/
def Image.join (img : Image) (k : Station) (floor pool interval : Nat) : Image × Effect :=
  let img := img.setPool pool interval
  match img.joinRefusal k pool interval with
  | some r => (img, .joinRefused r)
  | none =>
    (img.setEntry k { state := .present, floor := img.grantedFloor floor, holding := 0, recallDue := 0 },
      .joined floor (img.grantedFloor floor))

/-- The LEAVE effect (R75, R45). -/
def Image.leave (img : Image) (k : Station) : Image × Effect :=
  let e := img.entries[k]
  let r := ((img.dropRecord k).setEntry k Entry.empty).serve e.holding
  (r.1, .left e.state e.holding r.2)

/-- The LAPSE effect on target `t` (R76). -/
def Image.lapse (img : Image) (t : Station) (cause : Nat) : Image × Effect :=
  let e := img.entries[t]
  if e.state = .present then
    ((img.dropRecord t).setEntry t { e with state := .lapsed, recallDue := 0 }, .lapsed t e.holding cause)
  else (img, .notPresent)

/-- The FREE effect on target `t` (R77, R45). -/
def Image.freeEntry (img : Image) (t : Station) : Image × Effect :=
  let e := img.entries[t]
  if e.state = .lapsed then
    let r := (img.setEntry t Entry.empty).serve e.holding
    (r.1, .freed t e.holding r.2)
  else (img, .notLapsed)

/-! ## Responder selection (R99) -/

/-- The PRESENT stations in ascending order. -/
def Image.presentStations (img : Image) : List Station := stations.filter img.isPresent

/-- The responder selection of a SYNCREQ (R99): the PRESENT station at place r mod count. -/
def Image.responder (img : Image) (attempt pool : Nat) : Selection :=
  if img.pool.map (·.pool) ≠ some pool then .poolMismatch
  else
    match img.presentStations with
    | [] => .nonePresent
    | p :: ps => .station ((p :: ps).getD (attempt % (p :: ps).length) p)

/-! ## Application of a frame to the content of a copy (R21 to R23) -/

/-- The sender's entry allows the kind's effect (R22). -/
def Image.senderAllows (img : Image) (k : Station) (kind : FrameKind) : Bool :=
  match kind with
  | .join => true
  | .leave => img.entries[k].state != .absent
  | .present => true
  | .claim => img.isPresent k
  | .release => img.isPresent k
  | .lapse => img.isPresent k
  | .free => img.isPresent k
  | .syncreq => true
  | .snapshot => true

/-- The body is within the ranges of R23. -/
def Body.inRange (b : Body) : Bool :=
  match b with
  | .join floor pool interval =>
    floor ≤ 4000 && (1 ≤ pool && pool ≤ 4000) && (10 ≤ interval && interval ≤ 1000 && interval % 10 == 0)
  | .leave => true
  | .present => true
  | .claim delta => 1 ≤ delta && delta ≤ 4000
  | .release amount => 1 ≤ amount && amount ≤ 4000
  | .lapse target cause => target < 32 && (cause == lapseSilent || cause == lapseRecall)
  | .free target => target < 32
  | .syncreq attempt pool => attempt ≤ 2 && (1 ≤ pool && pool ≤ 4000)
  | .snapshot joiner _ index _ => joiner < 32 && index ≤ 4

/-- The effect of a frame body by its kind, the sender and range checks met. -/
def Image.effect (img : Image) (k : Station) (b : Body) : Image × Effect :=
  match b with
  | .join floor pool interval => img.join k floor pool interval
  | .leave => img.leave k
  | .present => (img, .noTable)
  | .claim delta => ((img.claim k delta).1, .claimed (img.claim k delta).2)
  | .release amount => ((img.release k amount).1, .released (img.release k amount).2)
  | .lapse target cause =>
    match stationOf target with
    | some t => img.lapse t cause
    | none => (img, .noRange)
  | .free target =>
    match stationOf target with
    | some t => img.freeEntry t
    | none => (img, .noRange)
  | .syncreq attempt pool => (img, .selected (img.responder attempt pool))
  | .snapshot _ _ _ _ => (img, .noTable)

/-- The application of a frame by sender `k` to the content (R21 to R23). A frame that both R22 and R23 leave without effect
has the outcome of R22 (log 40). -/
def Image.apply (img : Image) (k : Station) (b : Body) : Image × Effect :=
  if !img.senderAllows k b.kind then (img, .noSender)
  else if !b.inRange then (img, .noRange)
  else img.effect k b

/-- A copy after the application of a frame: N one higher, the effect made, the digest current (R21). -/
def Table.apply (t : Table) (k : Station) (b : Body) : Table × Effect :=
  let r := t.image.apply k b
  ({ image := r.1, n := t.n + 1, digest := r.1.crc }, r.2)

/-- The table created by founding (R18). -/
def Table.founding : Table := { image := .empty, n := 0, digest := Image.empty.crc }

/-! ## Installation and replay (R20, R108) -/

/-- One catch-up record replayed: a marker has no table effect, every record advances N (R108). -/
def Table.replayRecord (t : Table) (r : CatchUpRecord) : Table :=
  match r.body with
  | some b => (t.apply r.sender b).1
  | none => { t with n := t.n + 1 }

/-- The replay of the catch-up queue (R20). -/
def Table.replay (t : Table) (rs : List CatchUpRecord) : Table := rs.foldl Table.replayRecord t

/-- The eight packed entries of a piece of index 0 to 3. -/
def pieceEntries (data : List Byte) : Option (List PackedEntry) :=
  [0, 1, 2, 3, 4, 5, 6, 7].mapM (fun j => unpackEntry ((data.drop (4 + 7 * j)).take 7))

/-- The pool record a piece carries; none when P is not 1-4000 (R155). -/
def piecePool (data : List Byte) : Option PoolRecord :=
  match data with
  | p1 :: p0 :: i1 :: i0 :: _ =>
    if 1 ≤ natOf2 p1 p0 ∧ natOf2 p1 p0 ≤ 4000 then some { pool := natOf2 p1 p0, interval := natOf2 i1 i0 } else none
  | _ => none

/-- The wait-list order and the digest that piece 4 carries; none when its count is above 32 or a number listed is no
station's (R108, R155). -/
def pieceOrder (data : List Byte) : Option (List Station × Word) :=
  match data with
  | w :: rest =>
    if w.toNat ≤ 32 then
      match (rest.take w.toNat).mapM (fun b => stationOf b.toNat), rest.drop 32 with
      | some list, d1 :: d0 :: _ => if list.length = w.toNat then some (list, wordOf2 d1 d0) else none
      | _, _ => none
    else none
  | [] => none

/-- The checks of R108 on the decoded pieces: the stations listed are distinct, each PRESENT with a wait shortfall, and
every entry with a wait shortfall is listed. -/
def waitOrderValid (entries : Vector PackedEntry 32) (order : List Station) : Bool :=
  decide order.Nodup && order.all (fun k => entries[k].entry.state == .present && 1 ≤ entries[k].shortfall) &&
    stations.all (fun k => entries[k].shortfall == 0 || order.contains k)

/-- The image that five pieces of data describe (R108), with its digest formed by R13; none when a check is not met. -/
def assemble (pieces : List (List Byte)) : Option Image :=
  match pieces with
  | [d0, d1, d2, d3, d4] =>
    match piecePool d0, [d0, d1, d2, d3].mapM pieceEntries, pieceOrder d4 with
    | some pool, some ess, some (order, digest) =>
      let packed := ess.flatten
      let entries := tabulate 32 (fun k => packed.getD k.val { entry := .empty, shortfall := 0 })
      let img : Image :=
        { pool := some pool, entries := tabulate 32 (fun k => entries[k].entry),
          wait := order.map (fun k => { station := k, shortfall := entries[k].shortfall }) }
      if [d1, d2, d3].all (fun d => piecePool d == some pool) && waitOrderValid entries order && img.crc == digest
      then some img else none
    | _, _, _ => none
  | _ => none

/-- The installed copy: the image with N the base order b, its digest formed by R13 (R20). -/
def Table.install (img : Image) (base : Word) : Table := { image := img, n := base, digest := img.crc }

end Sys2Proof.Machine
end

