-- ==== Sys2Proof/Machine/Queue.lean ====
section
/-! DEFINITION. The Outgoing Queue: requests, merging, refusal, withdrawal and discard (section 6.6). Functions of LIF
alone; what the blocks do on its answers is in Ops.lean. -/

namespace Sys2Proof.Machine

/-- The set that holds one block. -/
def Blocks.only (b : Block) : Blocks :=
  match b with
  | .mc => { Blocks.none with mc := true }
  | .ca => { Blocks.none with ca := true }
  | .ba => { Blocks.none with ba := true }
  | .tu => { Blocks.none with tu := true }

/-- The union of two sets. -/
def Blocks.union (a b : Blocks) : Blocks :=
  { mc := a.mc || b.mc, ca := a.ca || b.ca, ba := a.ba || b.ba, tu := a.tu || b.tu }

/-- The blocks of the first set that are not in the second. -/
def Blocks.diff (a b : Blocks) : Blocks :=
  { mc := a.mc && !b.mc, ca := a.ca && !b.ca, ba := a.ba && !b.ba, tu := a.tu && !b.tu }

/-- The set is empty. -/
def Blocks.isEmpty (a : Blocks) : Bool := !a.mc && !a.ca && !a.ba && !a.tu

/-- The set holds the block. -/
def Blocks.has (a : Blocks) (b : Block) : Bool :=
  match b with
  | .mc => a.mc
  | .ca => a.ca
  | .ba => a.ba
  | .tu => a.tu

/-- The requests OQ holds at most (R145). -/
def queueCapacity : Nat := 8

/-- Two bodies of the same kind and target (R145). -/
def Body.sameKey (a b : Body) : Bool := a.kind == b.kind && a.target == b.target

/-- A new request (R145). -/
def Request.new (body : Body) (b : Block) : Request :=
  { body := body, requesters := .only b, attempts := 0, inTransmission := false, heldWithdrawals := .none }

/-- What OQ answers a request: refused, taken, or taken by a merge into a request already in transmission, whose
beginning the block is told at once (R146, R147). -/
inductive Answer where
  | refused
  | taken
  | begun
  deriving DecidableEq, Repr

/-- Two SNAPSHOT bodies of the same joiner, base and index; bodies of other kinds always agree (R147). -/
def Body.mergeable (held new : Body) : Bool :=
  match held, new with
  | .snapshot j b i _, .snapshot j' b' i' _ => j == j' && b == b' && i == i'
  | _, _ => true

/-- A request by a block (R145 to R147). A merged request keeps the body it has, a SYNCREQ's too (log 47). A block that
requests again what it had withdrawn in the sender byte (R141) wants it:
its held withdrawal falls away (log 38). -/
def Lif.request (lif : Lif) (body : Body) (b : Block) : Lif × Answer :=
  match lif.queue.find? (fun r => r.body.sameKey body) with
  | some r =>
    if r.body.mergeable body then
      ({ lif with
          queue := lif.queue.map (fun q =>
            if q.body.sameKey body then
              { q with requesters := q.requesters.union (.only b), heldWithdrawals := q.heldWithdrawals.diff (.only b) }
            else q) },
        if r.inTransmission then .begun else .taken)
    else ({ lif with waiting := lif.waiting.union (.only b) }, .refused)
  | none =>
    if lif.queue.length < queueCapacity then ({ lif with queue := lif.queue ++ [Request.new body b] }, .taken)
    else ({ lif with waiting := lif.waiting.union (.only b) }, .refused)

/-- The request being sent is in the sender byte of its first attempt, not yet reported (R141). -/
def Lif.inFirstSenderByte (lif : Lif) : Bool :=
  match lif.line, lif.queue with
  | .sending a, r :: _ => !a.senderByteEnded && !r.inTransmission
  | _, _ => false

/-- The withdrawal of a block's part of one request (R148): refused in transmission, else the part is taken away; none
when no requester is left. -/
def Request.without (r : Request) (b : Block) : Option Request :=
  if r.inTransmission then some r
  else if (r.requesters.diff (.only b)).isEmpty then none
  else some { r with requesters := r.requesters.diff (.only b) }

/-- A withdrawal by a block of its part of the request of this kind and target, if OQ holds one (R148); held while the
sender byte of the first attempt is on the line (R141). The second answer says whether a request left OQ. -/
def Lif.withdraw (lif : Lif) (body : Body) (b : Block) : Lif × Bool :=
  match lif.queue with
  | [] => (lif, false)
  | head :: rest =>
    if head.body.sameKey body then
      if lif.inFirstSenderByte then
        ({ lif with
            queue := { head with heldWithdrawals := head.heldWithdrawals.union (.only b) } :: rest }, false)
      else
        match head.without b with
        | some r => ({ lif with queue := r :: rest }, false)
        | none => ({ lif with queue := rest }, true)
    else
      let rest' := rest.filterMap (fun r => if r.body.sameKey body then r.without b else some r)
      ({ lif with queue := head :: rest' }, rest'.length < rest.length)

/-- OQ holds a request of this kind and target in which the block has a part. -/
def Lif.holds (lif : Lif) (body : Body) (b : Block) : Bool :=
  lif.queue.any (fun r => r.body.sameKey body && r.requesters.has b)

/-- The request at the head has begun: it is in transmission, or an attempt of it is on the line (R144). -/
def Lif.headBegun (lif : Lif) : Bool :=
  match lif.line, lif.queue with
  | .sending _, _ :: _ => true
  | _, r :: _ => r.inTransmission
  | _, [] => false

/-- The discard of a request that stays on the line (R144, R149): one that is in the sender byte of its first attempt goes,
whatever the phase, if that start is lost (R137), as one withdrawn there does (R141); once the byte has ended it is carried
on (log 16). -/
def Request.discard (r : Request) : Request :=
  if r.inTransmission then r else { r with heldWithdrawals := r.requesters }

/-- The discard on entry to OUT (R149): every request but the head that has begun; no waiting mark stays, since every
block drops what it holds. -/
def Lif.discardUnstarted (lif : Lif) : Lif :=
  { lif with
    queue := (lif.queue.take (if lif.headBegun then 1 else 0)).map Request.discard
    waiting := .none }

/-- The discard on entry to FAULT or OFFLINE (R144, R149): only a request whose attempt is under way stays. -/
def Lif.discardIdle (lif : Lif) : Lif :=
  match lif.line with
  | .sending _ => { lif with queue := (lif.queue.take 1).map Request.discard, waiting := .none }
  | _ => { lif with queue := [], waiting := .none }

end Sys2Proof.Machine
end

