-- ==== Sys2Proof/Machine/Ops.lean ====
section
/-! DEFINITION. The shared operations of the blocks on the whole station: requests to OQ and what a shrink report brings
(section 6.6), the Budget Agent's amounts, levels and tests (chapter 8), forced zero (section 9.4) and the discard of the
table (R16). -/

namespace Sys2Proof.Machine

/-! ## Fields of the own table -/

/-- The station holds a table (R15). -/
def State.holdsTable (s : State) : Bool := s.table.isSome

/-- The own entry, when a table is held (R3). -/
def State.ownEntry (s : State) : Entry :=
  match s.table with
  | some t => t.image.entries[s.num]
  | none => Entry.empty

/-- The own station has a wait-list record. -/
def State.ownWaits (s : State) : Bool :=
  match s.table with
  | some t => t.image.waits s.num
  | none => false

/-- The table shows a free unit and nobody waiting (R164). -/
def State.surplusShown (s : State) : Bool :=
  match s.table with
  | some t => t.image.wait.isEmpty && 0 < t.image.freeUnits
  | none => false

/-! ## Requests to OQ -/

/-- MC's held requests with one more, unless one of its kind and target is held already (R73). -/
def holdBody (held : List Body) (body : Body) : List Body :=
  if held.any (fun b => b.sameKey body) then held else held ++ [body]

/-- A request by MC; a refused one is held (R73). -/
def mcRequest (body : Body) (s : State) : State :=
  match s.lif.request body .mc with
  | (lif, .refused) =>
    { s with lif := lif, mc := { s.mc with held := holdBody s.mc.held body } }
  | (lif, _) => { s with lif := lif }

/-- The body of the own JOIN (R66). -/
def joinBody (s : State) : Body := .join s.inUse.floor s.inUse.pool s.inUse.tPresence

/-- A watch's new state. -/
def setWatch (k : Station) (w : Watch) (s : State) : State := { s with watches := s.watches.set k w }

/-- The LAPSE request of a recall watch (R51); merged into one in transmission it is SENDING at once (R146). -/
def caRequest (k : Station) (s : State) : State :=
  match s.lif.request (.lapse k.val lapseRecall) .ca with
  | (lif, .refused) => setWatch k .held { s with lif := lif }
  | (lif, .taken) => setWatch k .requested { s with lif := lif }
  | (lif, .begun) => setWatch k .sending { s with lif := lif }

/-- BA's CLAIM request (R165). The delta is filled at the attempt's start (R140). -/
def baRequestClaim (s : State) : State :=
  match s.lif.request (.claim 0) .ba with
  | (lif, .refused) => { s with lif := lif, ba := { s.ba with claim := .held } }
  | (lif, .taken) => { s with lif := lif, ba := { s.ba with claim := .queued } }
  | (lif, .begun) => { s with lif := lif, ba := { s.ba with claim := .sending } }

/-- BA's RELEASE request (R170). The amount is filled at the attempt's start (R140). -/
def baRequestRelease (s : State) : State :=
  match s.lif.request (.release 0) .ba with
  | (lif, .refused) => { s with lif := lif, ba := { s.ba with release := .held } }
  | (lif, .taken) => { s with lif := lif, ba := { s.ba with release := .queued } }
  | (lif, .begun) => { s with lif := lif, ba := { s.ba with release := .sending } }

/-- TU's SYNCREQ request, held when OQ is full (R96, R97). -/
def tuRequestSync (s : State) : State :=
  match s.lif.request (.syncreq s.tu.attempt s.inUse.pool) .tu with
  | (lif, .refused) => { s with lif := lif, tu := { s.tu with syncreqHeld := true } }
  | (lif, _) => { s with lif := lif, tu := { s.tu with syncreqHeld := false } }

/-- The body of the piece a snapshot sends next (R102, R103). -/
def pieceBody (n : Snapshot) : Body := .snapshot n.joiner.val n.base n.next (pieceData n.image n.digest n.next)

/-- TU's request of the next piece of its snapshot, held when OQ refuses it (R103). -/
def tuRequestPiece (s : State) : State :=
  match s.tu.snapshot with
  | none => s
  | some n =>
    match s.lif.request (pieceBody n) .tu with
    | (lif, .refused) => { s with lif := lif, tu := { s.tu with pieceHeld := true } }
    | (lif, _) => { s with lif := lif, tu := { s.tu with pieceHeld := false } }

/-! ## The Budget Agent's amounts (sections 8.1 to 8.3) -/

/-- The channels in order (R162). -/
def channelList : List Channel := List.finRange 4

/-- The effective demand of a channel (R160). -/
def target (s : State) (c : Channel) : Nat :=
  if s.co.channels[c].faulted then 0 else min s.co.channels[c].demand (rating s.inUse c)

/-- The demand total (R160). -/
def demandTotal (s : State) : Nat := (channelList.map (target s)).sum

/-- The sum of the applied levels. -/
def appliedSum (s : State) : Nat := (channelList.map (fun c => s.co.channels[c].applied)).sum

/-- The sum of the staged levels. -/
def stagedSum (s : State) : Nat := (channelList.map (fun c => s.co.channels[c].staged)).sum

/-- The cap by phase, thermal state and own entry (R161). -/
def capValue (s : State) : Nat :=
  match s.mc.phase with
  | .joined =>
    if s.ba.boundarySeen then
      match s.tm.state with
      | .normal => s.ownEntry.holding - s.ownEntry.recallDue
      | .derated => min s.ownEntry.holding s.ownEntry.floor - s.ownEntry.recallDue
      | .cut => 0
    else 0
  | _ => 0

/-- The budget of the split: the cap, and the bound of R171 while it is held (R162). -/
def budget (s : State) : Nat :=
  match s.ba.bound with
  | some a => min s.ba.cap (s.ownEntry.holding - a)
  | none => s.ba.cap

/-- The split of a budget over targets in order (R162). -/
def splitLevels (budget : Nat) (targets : List Nat) : List Nat :=
  match targets with
  | [] => []
  | t :: rest => min t budget :: splitLevels (budget - min t budget) rest

/-- The claim amount Q (R164). -/
def claimAmount (s : State) : Nat :=
  if s.mc.phase = .joined ∧ s.ownEntry.recallDue = 0 ∧ s.ownWaits = false then
    let limit :=
      match s.tm.state with
      | .normal => s.ba.demand
      | .derated => min s.ba.demand s.ownEntry.floor
      | .cut => 0
    if s.ownEntry.holding < s.ownEntry.floor ∨ s.surplusShown = true then limit - s.ownEntry.holding else 0
  else 0

/-- What BA keeps of the holding when it forms the spare part: the table of R168. In DERATED before the first boundary after
entry C is 0 (R161), and the table then keeps nothing (log 45). -/
def keepUnits (s : State) : Nat :=
  match s.tm.state, s.ba.idleMark with
  | .normal, false => s.ownEntry.holding - s.ownEntry.recallDue
  | .normal, true => s.ba.demand
  | .derated, false => s.ba.cap
  | .derated, true => min s.ba.demand s.ba.cap
  | .cut, _ => s.ownEntry.holding - s.ownEntry.recallDue

/-- The intended release I (R168). -/
def intendedRelease (s : State) : Nat :=
  if s.mc.phase = .joined then
    s.ownEntry.recallDue + (s.ownEntry.holding - s.ownEntry.recallDue - keepUnits s)
  else 0

/-- The amount BA gives a RELEASE at an attempt's start (R171). -/
def releaseAmount (s : State) : Nat :=
  min (intendedRelease s) (s.ownEntry.holding - max (appliedSum s) (stagedSum s))

/-- The idle condition (R169). -/
def idleCondition (s : State) : Bool :=
  s.mc.phase == .joined && !s.ownWaits && min s.ba.demand s.ba.cap < s.ownEntry.holding - s.ownEntry.recallDue

/-- The conditions under which a RELEASE is requested, the side apart (R170). -/
def releaseWanted (s : State) : Bool :=
  s.mc.phase == .joined && 0 < intendedRelease s && appliedSum s ≤ s.ownEntry.holding - intendedRelease s

/-! ## The Budget Agent's acts -/

/-- BA forms D (R160). -/
def formDemand (s : State) : State := { s with ba := { s.ba with demand := demandTotal s } }

/-- BA forms C (R161). -/
def formCap (s : State) : State := { s with ba := { s.ba with cap := capValue s } }

/-- BA stages a set of four levels in CO (R162, R185). -/
def stage (s : State) : State :=
  let levels := splitLevels (budget s) (channelList.map (target s))
  { s with
    co := { s.co with
      channels := tabulate 4 (fun c => { s.co.channels[c] with staged := levels.getD c.val 0 }) } }

/-- BA tests the idle condition (R169): with t_idle 0 the mark is set at once. -/
def testIdle (s : State) : State :=
  if idleCondition s then
    if s.ba.idleMark || s.ba.idleTimer.isSome then s
    else if s.inUse.tIdle = 0 then { s with ba := { s.ba with idleMark := true } }
    else { s with ba := { s.ba with idleTimer := startMs s.inUse.tIdle } }
  else { s with ba := { s.ba with idleMark := false, idleTimer := none } }

/-- BA tests for a claim (R165). -/
def testClaim (s : State) : State :=
  if s.ba.claim = .none ∧ s.ba.release = .none ∧ 0 < claimAmount s then baRequestClaim s else s

/-- BA tests for a release (R170). -/
def testRelease (s : State) : State :=
  if s.ba.release = .none ∧ releaseWanted s = true then baRequestRelease s else s

/-- Every applied level is 0. -/
def levelsZero (s : State) : Bool := appliedSum s == 0

/-- BA's report to MC, once in each LEAVING phase, that the applied levels are all 0, and MC's LEAVE request on it
(R174, R86). -/
def reportZero (s : State) : State :=
  if s.mc.phase = .leaving ∧ s.ba.zeroReported = false ∧ levelsZero s = true then
    mcRequest .leave { s with ba := { s.ba with zeroReported := true } }
  else s

/-- What BA does after any event that may change its inputs: D, C, the staged set, the idle condition, the tests for a
claim and then for a release (log 44), the report in LEAVING (R160 to R174). With nothing changed it changes nothing. -/
def refresh (s : State) : State :=
  reportZero (testRelease (testClaim (testIdle (stage (formCap (formDemand s))))))

/-- A claim side whose request has left OQ goes to NONE (R167). -/
def ClaimSide.settle (c : ClaimSide) (inQueue : Bool) : ClaimSide :=
  match c with
  | .queued => if inQueue then .queued else .none
  | .sending => if inQueue then .sending else .none
  | .held => .held
  | .holdoff => .holdoff
  | .none => .none

/-- A release side whose request has left OQ goes to NONE (R172). -/
def ReleaseSide.settle (r : ReleaseSide) (inQueue : Bool) : ReleaseSide :=
  match r with
  | .queued => if inQueue then .queued else .none
  | .sending => if inQueue then .sending else .none
  | .held => .held
  | .none => .none

/-- BA's sides after requests have left OQ by discard or withdrawal; a release that ended lifts the bound (R167, R172). -/
def baSettle (s : State) : State :=
  { s with
    ba := { s.ba with
      claim := s.ba.claim.settle (s.lif.holds (.claim 0) .ba)
      release := s.ba.release.settle (s.lif.holds (.release 0) .ba)
      bound := if s.lif.holds (.release 0) .ba then s.ba.bound else none } }

/-! ## Shrink reports (R147) -/

/-- MC makes its held requests again (R73). -/
def mcRetry (s : State) : State :=
  s.mc.held.foldl (fun s b => mcRequest b s) { s with mc := { s.mc with held := [] } }

/-- The Claim Arithmetic makes the requests of its HELD watches again (R51). -/
def caRetry (s : State) : State :=
  stations.foldl (fun s k => if s.watches[k] = .held then caRequest k s else s) s

/-- BA makes its HELD claim again, or drops it when Q is 0 (R165). -/
def retryClaim (s : State) : State :=
  if s.ba.claim = .held then
    if 0 < claimAmount s then baRequestClaim s else { s with ba := { s.ba with claim := .none } }
  else s

/-- BA makes its HELD release again, or drops it when the conditions of R170 no longer hold. -/
def retryRelease (s : State) : State :=
  if s.ba.release = .held then
    if releaseWanted s = true then baRequestRelease s else { s with ba := { s.ba with release := .none } }
  else s

/-- BA on a shrink report: its HELD requests, the claim before the release (log 44), and then the test for a claim, since a
release dropped has changed the sides (R165). -/
def baRetry (s : State) : State := testClaim (retryRelease (retryClaim s))

/-- TU makes its held requests again (R96, R103). -/
def tuRetry (s : State) : State :=
  let s := if s.tu.syncreqHeld then tuRequestSync s else s
  if s.tu.pieceHeld then tuRequestPiece s else s

/-- OQ reports to every waiting block that its queue has shrunk and clears the marks; the blocks make their requests again,
in the order MC, Claim Arithmetic, BA, TU (R147, log 10). -/
def shrink (s : State) : State :=
  let w := s.lif.waiting
  let s := { s with lif := { s.lif with waiting := .none } }
  let s := if w.mc then mcRetry s else s
  let s := if w.ca then caRetry s else s
  let s := if w.ba then baRetry s else s
  if w.tu then tuRetry s else s

/-! ## Withdrawals (R148) -/

/-- A block withdraws its part of a request; a request that leaves OQ shrinks it. -/
def withdraw (body : Body) (b : Block) (s : State) : State :=
  let r := s.lif.withdraw body b
  if r.2 then shrink { s with lif := r.1 } else { s with lif := r.1 }

/-- MC withdraws a request, and drops it when it is held (R73). -/
def mcWithdraw (body : Body) (s : State) : State :=
  withdraw body .mc { s with mc := { s.mc with held := s.mc.held.filter (fun b => !b.sameKey body) } }

/-- A snapshot ends early: buffer freed, a held piece dropped, a piece not yet begun withdrawn (R100, R104). -/
def endSnapshot (s : State) : State :=
  match s.tu.snapshot with
  | none => s
  | some _ =>
    withdraw (.snapshot 0 0 0 []) .tu { s with tu := { s.tu with snapshot := none, pieceHeld := false } }

/-- TU's joiner side with nothing of an attempt left (R112). -/
def Tu.clearAttempt (tu : Tu) : Tu :=
  { tu with sync := none, catchUp := [], pieces := [], anchor := none, responder := none, base := none }

/-! ## Forced zero (R188) -/

/-- A channel forced to zero. -/
def Load.zero (c : Load) : Load := { c with staged := 0, applied := 0 }

/-- CO forces all four channels to zero. -/
def forceZeroAll (s : State) : State :=
  { s with co := { s.co with channels := tabulate 4 (fun c => s.co.channels[c].zero) } }

/-- CO forces one channel to zero. -/
def forceZero (c : Channel) (s : State) : State :=
  { s with co := { s.co with channels := s.co.channels.set c s.co.channels[c].zero } }

/-! ## The discard of the table (R16) -/

/-- BA's part of the table-discarded notice (R175): timers, mark and bound gone, a side QUEUED, HELD or in HOLDOFF to NONE. -/
def Ba.drop (ba : Ba) : Ba :=
  { ba with
    claim := if ba.claim = .sending then .sending else .none
    release := if ba.release = .sending then .sending else .none
    idleTimer := none, idleMark := false, holdoff := none, bound := none, boundarySeen := false }

/-- The table is discarded: LIF keeps N and digest (R139), and every block stops the work it runs against it (R16). -/
def discardTable (s : State) : State :=
  match s.table with
  | none => s
  | some t =>
    { s with
      table := none
      lif := { s.lif with kept := some (t.n, t.digest) }
      watches := noWatches
      mc := { s.mc with lastHeard := noTimers, quarantine := noTimers }
      tu := { s.tu with snapshot := none, pieceHeld := false }
      ac := { s.ac with doubt := none, timer := none }
      ba := s.ba.drop }

end Sys2Proof.Machine
end

