-- ==== Sys2Proof/Machine/Phases.lean ====
section
/-! DEFINITION. The phase changes of MC and what comes with each (chapter 3), and the joiner side of TU that SYNCING
starts (section 4.2). -/

namespace Sys2Proof.Machine

/-- A change of phase and its PHASE event (R61, R63). -/
def setPhase (p : Phase) (c : Cause) (s : State) : State :=
  postOwn .phase (phaseCode p) (causeCode c) { s with mc := { s.mc with phase := p, cause := c } }

/-- The PHASE event of a refused own JOIN, the phase unchanged (R63). -/
def postRefusal (c : Cause) (s : State) : State := postOwn .phase (phaseCode s.mc.phase) (causeCode c) s

/-! ## Timer lengths (00_scope.md section 6.4), in milliseconds of the values in use (R205) -/

def tPresence (s : State) : Nat := s.inUse.tPresence
def tLapse (s : State) : Nat := 4 * s.inUse.tPresence
def tListen (s : State) : Nat := 5 * s.inUse.tPresence
def tSync (s : State) : Nat := 3 * s.inUse.tPresence
def tDoubt (s : State) : Nat := 3 * s.inUse.tPresence
def tRejoin (s : State) : Nat := 2 * s.inUse.tPresence

/-! ## LISTEN, FOUNDING, SYNCING, JOINING -/

/-- MC enters LISTEN: listen timer, duplicate-refusal count, self-objection count, kept values (R64, R71, R134, R139). A
request still in transmission when OUT ends stays in OQ (log 46). -/
def enterListen (c : Cause) (s : State) : State :=
  let s := setPhase .listen c s
  { s with
    mc := { s.mc with listen := startMs (tListen s), rejoin := none, dupCount := 0 }
    lif := { s.lif with selfObjection := 0, kept := none } }

/-- MC enters FOUNDING: the empty table of R18 and the JOIN request (R66). -/
def enterFounding (s : State) : State :=
  let s := setPhase .founding .quiet s
  mcRequest (joinBody s)
    { s with mc := { s.mc with listen := none }, table := some Table.founding, lif := { s.lif with kept := none } }

/-- TU begins a transfer attempt: ASKING, and a SYNCREQ of attempt r requested (R96, R97). -/
def ask (attempt : Nat) (s : State) : State :=
  tuRequestSync { s with tu := { s.tu.clearAttempt with joiner := .asking, attempt := attempt } }

/-- MC enters SYNCING and TU begins its first attempt (R65, R67, R96). -/
def enterSyncing (c : Cause) (s : State) : State :=
  let s := setPhase .syncing c s
  ask 0 { s with mc := { s.mc with listen := none, rejoin := none } }

/-- MC enters JOINING and requests its JOIN (R69). -/
def enterJoining (s : State) : State :=
  let s := setPhase .joining .installed s
  mcRequest (joinBody s) s

/-! ## JOINED and LEAVING -/

/-- The last-heard timers on entry to JOINED: a full one for each PRESENT peer (R79). -/
def startLastHeard (s : State) (img : Image) : Vector (Option Timer) 32 :=
  tabulate 32 (fun k => if k ≠ s.num ∧ img.entries[k].state = .present then startMs (tLapse s) else none)

/-- The quarantine timers on entry to JOINED: a full one for each LAPSED peer (R79). -/
def startQuarantine (s : State) (img : Image) : Vector (Option Timer) 32 :=
  tabulate 32 (fun k => if k ≠ s.num ∧ img.entries[k].state = .lapsed then startMs s.inUse.tQuar else none)

/-- A watch started at full length (R48). -/
def startWatch (s : State) : Watch := .timing { length := s.inUse.tRecall * 1000, run := 0 }

/-- An entry is a PRESENT debtor (R8, R48). -/
def Entry.isDebtor (e : Entry) : Bool := e.state == .present && 0 < e.recallDue

/-- The watches on entry to JOINED: TIMING for each PRESENT debtor but the own station (R48). -/
def startWatches (s : State) (img : Image) : Vector Watch 32 :=
  tabulate 32 (fun k => if k ≠ s.num ∧ img.entries[k].isDebtor = true then startWatch s else .idle)

/-- The content of the own copy, empty when none is held. -/
def State.image (s : State) : Image :=
  match s.table with
  | some t => t.image
  | none => .empty

/-- BA on entry to JOINED (R175). -/
def Ba.enterJoined (ba : Ba) : Ba :=
  { ba with claim := .none, release := .none, holdoff := none, idleMark := false, idleTimer := none, bound := none,
            boundarySeen := false, zeroReported := false }

/-- MC enters JOINED (R79), the watches and BA start (R48, R175), and the counts of R70 are cleared. -/
def enterJoined (s : State) : State :=
  let s := setPhase .joined .accepted s
  refresh
    { s with
      mc := { s.mc with
        presence := startMs (tPresence s), rejoin := none, lastHeard := startLastHeard s s.image,
        quarantine := startQuarantine s s.image }
      watches := startWatches s s.image
      ba := s.ba.enterJoined }

/-- The Claim Arithmetic on leaving JOINED for LEAVING: every watch IDLE, each request in REQUESTED withdrawn (R57). -/
def endWatches (s : State) : State :=
  (stations.filter (fun k => s.watches[k] = .requested)).foldl (fun s k => withdraw (.lapse k.val 0) .ca s)
    { s with watches := noWatches }

/-- A body by which MC watches a peer: LAPSE or FREE. -/
def Body.isPeerWatch (b : Body) : Bool := b.kind == .lapse || b.kind == .free

/-- MC on leaving JOINED for LEAVING: the peer timers stop and its LAPSE and FREE requests are withdrawn (R84). -/
def endPeerTimers (s : State) : State :=
  stations.foldl (fun s k => mcWithdraw (.free k.val) (mcWithdraw (.lapse k.val 0) s))
    { s with
      mc := { s.mc with
        lastHeard := noTimers, quarantine := noTimers, held := s.mc.held.filter (fun b => !b.isPeerWatch) } }

/-- BA on leaving JOINED for LEAVING: HELD requests dropped, QUEUED ones withdrawn, timers stopped, mark cleared (R174). -/
def baLeave (s : State) : State :=
  let s :=
    { s with
      ba := { s.ba with
        claim := if s.ba.claim = .held ∨ s.ba.claim = .holdoff then .none else s.ba.claim
        release := if s.ba.release = .held then .none else s.ba.release
        idleTimer := none, idleMark := false, holdoff := none, boundarySeen := false, zeroReported := false } }
  let s := if s.ba.claim = .queued then withdraw (.claim 0) .ba s else s
  let s := if s.ba.release = .queued then withdraw (.release 0) .ba s else s
  baSettle s

/-- MC enters LEAVING (R85): the other blocks end what they do only in JOINED (R57, R84, R104, R174), the presence timer
runs (R62, log 18), and the LEAVE is requested at once when the levels are already 0 (R86). -/
def enterLeaving (c : Cause) (s : State) : State :=
  let s := setPhase .leaving c s
  let s :=
    { s with
      mc := { s.mc with
        rejoin := none, pendingStop := none,
        presence := if s.mc.presence.isSome then s.mc.presence else startMs (tPresence s) } }
  refresh (baLeave (endPeerTimers (endWatches (endSnapshot s))))

/-! ## OUT, FAULT, OFFLINE -/

/-- MC with every timer stopped and nothing held (R91, R94, R95). -/
def Mc.stopAll (mc : Mc) : Mc :=
  { mc with
    listen := none, presence := none, rejoin := none, lastHeard := noTimers, quarantine := noTimers,
    pendingStop := none, awaitLeave := false, held := [] }

/-- The joiner side ended, its SYNCREQ left to OQ's own discard (R113). -/
def Tu.stop (tu : Tu) : Tu :=
  { tu.clearAttempt with joiner := .idle, attempt := 0, syncreqHeld := false, snapshot := none, pieceHeld := false }

/-- What every entry to OUT, FAULT and OFFLINE does to the blocks beside OQ: timers, watches, transfer and doubt end, the
table is discarded, the self-objection count is 0 (R16, R91, R94, R113, R124, R134). -/
def stopBlocks (s : State) : State :=
  let s := discardTable s
  { s with
    mc := s.mc.stopAll
    tu := s.tu.stop
    watches := noWatches
    ac := { s.ac with doubt := none, timer := none }
    ba := s.ba.drop
    lif := { s.lif with selfObjection := 0 } }

/-- LIF's line-fault OUT count on an entry to OUT (R93). -/
def countLineFault (c : Cause) (n : Nat) : Nat := if c = .lineFault then min 3 (n + 1) else n

/-- MC enters OUT (R91): forced zero, OQ discard, table discard, and one LEAVE when a table was held and the cause is not
LAPSED; with none requested the rejoin timer starts at once (R92). -/
def enterOut (c : Cause) (s : State) : State :=
  let leaves := s.table.isSome && c ≠ .lapsed
  let s := forceZeroAll (setPhase .out c s)
  let s := { s with lif := { s.lif.discardUnstarted with lineFaultOut := countLineFault c s.lif.lineFaultOut } }
  let s := stopBlocks s
  let s :=
    if leaves then mcRequest .leave { s with mc := { s.mc with awaitLeave := true } }
    else { s with mc := { s.mc with rejoin := startMs (tRejoin s) } }
  refresh s

/-- MC enters FAULT (R94): forced zero, OQ discard, table discard; no LEAVE; the kept values are cleared (R139). -/
def enterFault (c : Cause) (s : State) : State :=
  let s := forceZeroAll (setPhase .fault c s)
  let s := stopBlocks { s with lif := s.lif.discardIdle }
  refresh (baSettle { s with lif := { s.lif with kept := none } })

/-- MC enters OFFLINE (R86 to R89): the table is discarded, requests end by R144, the kept values are cleared (R139). -/
def enterOffline (c : Cause) (s : State) : State :=
  let s := setPhase .offline c s
  let s := stopBlocks { s with lif := s.lif.discardIdle }
  refresh (baSettle { s with lif := { s.lif with kept := none } })

/-! ## STOP and CUT -/

/-- The own JOIN is in transmission (R87, R141). -/
def joinInTransmission (s : State) : Bool := s.lif.queue.any (fun r => r.body.kind == .join && r.inTransmission)

/-- A stop taken in JOINING, or a CUT in FOUNDING or JOINING (R87, R89): by the own entry and the own JOIN. A stop already
pending keeps its cause (log 24). -/
def stopJoining (c : Cause) (s : State) : State :=
  if s.ownEntry.state = .present then
    enterLeaving c (mcWithdraw (joinBody s) (mcWithdraw .leave s))
  else if joinInTransmission s then
    match s.mc.pendingStop with
    | some _ => s
    | none => { s with mc := { s.mc with pendingStop := some c } }
  else enterOffline c s

/-- MC's act on an entry to CUT (R85, R89). -/
def cutPhase (s : State) : State :=
  match s.mc.phase with
  | .offline => s
  | .listen => enterOffline .thermal s
  | .founding => stopJoining .thermal s
  | .syncing => enterOffline .thermal s
  | .joining => stopJoining .thermal s
  | .joined => enterLeaving .thermal s
  | .leaving => s
  | .out => s
  | .fault => s

/-! ## Own LEAVE from OUT -/

/-- MC starts the rejoin timer (R72, R92). -/
def startRejoin (s : State) : State := { s with mc := { s.mc with rejoin := startMs (tRejoin s) } }

/-- The end of the LEAVE requested on entry to OUT: the rejoin timer starts (R92). -/
def leaveEnded (s : State) : State :=
  if s.mc.awaitLeave then startRejoin { s with mc := { s.mc with awaitLeave := false } } else s

/-- The rejoin timer's expiry in OUT (R92, R89, R93): FAULT when the line-fault OUT count is 3, else OFFLINE in CUT, else
LISTEN. -/
def rejoin (s : State) : State :=
  if s.lif.lineFaultOut = 3 then enterFault .lineFault s
  else if s.tm.state = .cut then enterOffline .thermal s
  else enterListen .rejoin s

end Sys2Proof.Machine
end

