-- ==== Sys2Proof/Machine/Transfer.lean ====
section
/-! DEFINITION. The Transfer Unit's work on accepted frames and failures (chapter 4): the joiner's collection, the
installation and replay, and the responder's snapshot. -/

namespace Sys2Proof.Machine

/-! ## The joiner side -/

/-- The most records the catch-up queue holds (R105). -/
def catchUpCapacity : Nat := 24

/-- An attempt has failed (R112): the next attempt, or FAULT with SYNC_FAILED after the third. -/
def failAttempt (s : State) : State :=
  if s.tu.attempt < 2 then ask (s.tu.attempt + 1) s
  else enterFault .syncFailed { s with tu := { s.tu.clearAttempt with joiner := .idle } }

/-- The record of an accepted frame: a SNAPSHOT is stored as a marker (R105). -/
def catchUpRecord (f : Frame) : CatchUpRecord :=
  { sender := f.sender, kind := f.body.kind, body := if f.body.kind = .snapshot then none else some f.body }

/-- The piece data to keep of an accepted frame, when the conditions of R107 hold. -/
def keptData (s : State) (f : Frame) : Option (List Byte) :=
  match f.body with
  | .snapshot joiner base index data =>
    if joiner = s.num.val ∧ base = f.order - BitVec.ofNat 16 s.tu.catchUp.length ∧
        (if s.tu.pieces = [] then index = 0
         else s.tu.responder = some f.sender ∧ s.tu.base = some base ∧ index = s.tu.pieces.length)
    then some data else none
  | _ => none

/-- A piece kept aside: the first fixes the anchor order, the expected responder and the expected base (R106, R107). -/
def Tu.keep (tu : Tu) (f : Frame) (data : List Byte) : Tu :=
  match tu.pieces with
  | [] =>
    let base := f.order - BitVec.ofNat 16 tu.catchUp.length
    { tu with pieces := [data], anchor := some base, responder := some f.sender, base := some base }
  | ps => { tu with pieces := ps ++ [data] }

/-- The copy that the kept pieces and the catch-up queue give: the image installed at the base order and every record
replayed on it (R108). -/
def collectedTable (tu : Tu) : Option Table :=
  match assemble tu.pieces, tu.base with
  | some img, some base => some ((Table.install img base).replay tu.catchUp)
  | _, _ => none

/-- The end of a collection with all five pieces kept (R108): installation, replay and JOINING, or a failed attempt. An
installation clears the expected responder and the expected base with the kept pieces (log 55). -/
def finishCollection (s : State) : State :=
  match collectedTable s.tu with
  | some t =>
    enterJoining
      { s with
        table := some t
        lif := { s.lif with kept := none }
        tu := { s.tu.clearAttempt with joiner := .idle } }
  | none => failAttempt s

/-- An accepted frame in COLLECTING (R105, R107, R111): overflow, or its record stored and a piece kept aside. -/
def collect (f : Frame) (s : State) : State :=
  if catchUpCapacity ≤ s.tu.catchUp.length then failAttempt s
  else
    match keptData s f with
    | none => { s with tu := { s.tu with catchUp := s.tu.catchUp ++ [catchUpRecord f] } }
    | some data =>
      let tu := s.tu.keep f data
      let s := { s with tu := { tu with catchUp := tu.catchUp ++ [catchUpRecord f] } }
      if tu.pieces.length = 5 then finishCollection s else s

/-- An accepted frame at a station in SYNCING without a table (R96, R98, R105). -/
def transferFrame (f : Frame) (own : Bool) (s : State) : State :=
  match s.tu.joiner with
  | .idle => s
  | .asking =>
    if own && f.body.kind == .syncreq then
      { s with tu := { s.tu with joiner := .collecting, sync := startMs (tSync s) } }
    else s
  | .collecting => collect f s

/-! ## The responder side -/

/-- A SYNCREQ applied (R100, R101): a snapshot for its sender ends, whatever the outcome (a body out of range included); the
station selected answers when it is JOINED and its buffer is idle. -/
def answerSyncreq (sender : Station) (eff : Effect) (t : Table) (s : State) : State :=
  let s :=
    match s.tu.snapshot with
    | some n => if n.joiner = sender then endSnapshot s else s
    | none => s
  if eff = .selected (.station s.num) ∧ s.mc.phase = .joined ∧ s.tu.snapshot = none then
    tuRequestPiece
      { s with
        tu := { s.tu with
          snapshot := some { joiner := sender, base := t.n, image := t.image, digest := t.digest, next := 0 } } }
  else s

/-- An own piece applied (R103): the next piece is requested, or after piece 4 the buffer is freed. -/
def pieceApplied (joiner : Nat) (base : Word) (index : Nat) (s : State) : State :=
  match s.tu.snapshot with
  | none => s
  | some n =>
    if n.joiner.val = joiner ∧ n.base = base ∧ n.next = index then
      if index < 4 then
        tuRequestPiece { s with tu := { s.tu with snapshot := some { n with next := index + 1 } } }
      else { s with tu := { s.tu with snapshot := none, pieceHeld := false } }
    else s

/-- TU on an applied-frame notice (R27). -/
def tuNotice (f : Frame) (own : Bool) (eff : Effect) (t : Table) (s : State) : State :=
  match f.body with
  | .syncreq _ _ => answerSyncreq f.sender eff t s
  | .snapshot joiner base index _ => if own then pieceApplied joiner base index s else s
  | _ => s

end Sys2Proof.Machine
end

