-- ==== Sys2Proof/Machine/Apply.lean ====
section
/-! DEFINITION. The application of an accepted frame at a station that holds a table (section 1.5): the comparison by AC,
the effect, the notices to the blocks, and the phase change it brings. -/

namespace Sys2Proof.Machine

/-! ## The Agreement Checker (chapter 5) -/

/-- AC compares frames in this phase (R116, R117). -/
def acActive (p : Phase) : Bool := p == .joining || p == .joined || p == .leaving

/-- What differs between a header and the local values (R118); none when they agree. -/
def mismatch (f : Frame) (t : Table) : Option Mismatch :=
  if f.order = t.n then if f.digest = t.digest then none else some .digest
  else if f.digest = t.digest then some .order else some .both

/-- The frame is compared (R117): phase, foreign, not a SYNCREQ. -/
def compared (f : Frame) (own : Bool) (s : State) : Bool :=
  acActive s.mc.phase && !own && f.body.kind != .syncreq

/-- The frame brings AC to conclude divergence (R121): it disagrees and the doubt set holds another station. -/
def concludesDivergence (f : Frame) (own : Bool) (t : Table) (s : State) : Bool :=
  compared f own s && (mismatch f t).isSome && s.ac.doubt.isSome && s.ac.doubt != some f.sender

/-- The last-disagreement record of a frame (R116, R120). -/
def disagreement (f : Frame) (t : Table) (m : Mismatch) : Disagreement :=
  { sender := f.sender, kind := f.body.kind, order := f.order, digest := f.digest, localN := t.n,
    localDigest := t.digest, mismatch := m }

/-- AC's part of an application (R119, R120). -/
def acCompare (f : Frame) (own : Bool) (t : Table) (s : State) : State :=
  if compared f own s then
    match mismatch f t with
    | none => { s with ac := { s.ac with doubt := none, timer := none } }
    | some m =>
      match s.ac.doubt with
      | none =>
        { s with ac := { doubt := some f.sender, timer := startMs (tDoubt s), last := some (disagreement f t m) } }
      | some _ => { s with ac := { s.ac with last := some (disagreement f t m) } }
  else s

/-! ## The Claim Arithmetic's notice: watches and events (sections 2.6 and 2.7) -/

/-- A watch after an application that took its entry from `before` to `after` (R48 to R50, R53). -/
def nextWatch (s : State) (before after : Entry) (w : Watch) : Watch :=
  match w with
  | .idle => if after.isDebtor && before.recallDue == 0 then startWatch s else .idle
  | .timing t => if after.isDebtor then .timing t else .idle
  | .requested => if after.isDebtor then .requested else .idle
  | .held => if after.isDebtor then .held else .idle
  | .sending => .sending

/-- The watch whose own LAPSE has been applied (R54). -/
def lapseSent (f : Frame) (own : Bool) (k : Station) : Bool :=
  own &&
    match f.body with
    | .lapse target _ => target == k.val
    | _ => false

/-- Every watch after an application in JOINED (R47 to R54). -/
def nextWatches (s : State) (f : Frame) (own : Bool) (before after : Image) : Vector Watch 32 :=
  tabulate 32 (fun k =>
    if k = s.num then .idle
    else if lapseSent f own k && s.watches[k] == .sending then .idle
    else nextWatch s before.entries[k] after.entries[k] s.watches[k])

/-- The watches on an applied-frame notice: each that leaves REQUESTED withdraws its part of the LAPSE (R53). -/
def watchNotice (f : Frame) (own : Bool) (before after : Image) (s : State) : State :=
  if s.mc.phase = .joined then
    let ended := stations.filter (fun k => s.watches[k] == .requested && !after.entries[k].isDebtor)
    ended.foldl (fun s k => withdraw (.lapse k.val 0) .ca s)
      { s with watches := nextWatches s f own before after }
  else s

/-- The cause codes of SURPLUS_REFUSED (R159). -/
def claimReasonCode (r : Option ClaimReason) : Nat :=
  match r with
  | none => 0
  | some .alreadyWaiting => 1
  | some .debtor => 2
  | some .listNotEmpty => 3
  | some .poolShort => 4

/-- The SERVED events of the own station in a list of services (R59). -/
def postServed (r : Served) (s : State) : State :=
  r.services.foldl
    (fun s v => if v.station = s.num then postOwn .served v.units (if v.removed then 1 else 2) s else s) s

/-- The events of the own CLAIM (R58). -/
def postClaim (o : ClaimOutcome) (s : State) : State :=
  let s := if 0 < o.granted then postOwn .granted o.granted (if o.surplus = 0 then 1 else 2) s else s
  let s := if 0 < o.queued then postOwn .waiting o.queued 0 s else s
  if 0 < o.refused then postOwn .surplusRefused o.refused (claimReasonCode o.reason) s else s

/-- The RECALLED events of the own station in a list of assignments (R59). -/
def postRecalled (assigned : List (Station × Nat)) (before : Image) (s : State) : State :=
  assigned.foldl
    (fun s a =>
      if a.1 = s.num then postOwn .recalled a.2 (if before.entries[a.1].recallDue = 0 then 1 else 2) s else s) s

/-- The cause of RELEASED (R59, R159). -/
def releasedCause (o : ReleaseOutcome) : Nat := if o.before = 0 then 0 else if o.after = 0 then 1 else 2

/-- The Claim Arithmetic's events of an application (R58, R59); a RELEASE of no units leaves the entry unchanged (R41) and
posts nothing. -/
def budgetEvents (sender : Station) (eff : Effect) (before : Image) (s : State) : State :=
  match eff with
  | .claimed o => postRecalled o.assigned before (if sender = s.num then postClaim o s else s)
  | .released o =>
    postServed o.served
      (if sender = s.num ∧ 0 < o.released then postOwn .released o.released (releasedCause o) s else s)
  | .left _ _ served => postServed served s
  | .freed _ _ served => postServed served s
  | _ => s

/-! ## MC's notice: events and timers (sections 3.5 and 3.6) -/

/-- MC's events of an application: FLOOR_TRIMMED of the own JOIN (R74) and the PEERS events (R78). -/
def memberEvents (sender : Station) (eff : Effect) (s : State) : State :=
  match eff with
  | .joined requested granted =>
    if sender = s.num then
      if granted < requested then postOwn .floorTrimmed granted requested s else s
    else post .peerJoined sender.val granted 0 s
  | .left before units _ =>
    if sender = s.num then s else post .peerLeft sender.val units (entryStateCode before) s
  | .lapsed t kept cause => if t = s.num then s else post .peerLapsed t.val kept cause s
  | .freed t units _ => if t = s.num then s else post .peerFreed t.val units 0 s
  | _ => s

/-- The last-heard timers after an application in JOINED (R79, R81). -/
def nextLastHeard (s : State) (sender : Station) (before after : Image) : Vector (Option Timer) 32 :=
  tabulate 32 (fun k =>
    if k = s.num ∨ after.entries[k].state ≠ .present then none
    else if sender = k ∨ before.entries[k].state ≠ .present then startMs (tLapse s)
    else s.mc.lastHeard[k])

/-- The quarantine timers after an application in JOINED (R79, R83). -/
def nextQuarantine (s : State) (before after : Image) : Vector (Option Timer) 32 :=
  tabulate 32 (fun k =>
    if k = s.num ∨ after.entries[k].state ≠ .lapsed then none
    else if before.entries[k].state ≠ .lapsed then startMs s.inUse.tQuar
    else s.mc.quarantine[k])

/-- The peers whose LAPSE for silence MC withdraws: the sender, and an entry that has left PRESENT (R82). -/
def heardOrGone (sender : Station) (before after : Image) : List Station :=
  stations.filter (fun k => k == sender || (before.isPresent k && !after.isPresent k))

/-- The peers whose FREE MC withdraws: an entry that has left LAPSED (R83). -/
def leftLapsed (before after : Image) : List Station :=
  stations.filter (fun k => before.entries[k].state == .lapsed && after.entries[k].state != .lapsed)

/-- MC's peer timers on an applied-frame notice in JOINED (R81 to R83). -/
def peerNotice (sender : Station) (before after : Image) (s : State) : State :=
  if s.mc.phase = .joined then
    let s :=
      { s with
        mc := { s.mc with
          lastHeard := nextLastHeard s sender before after, quarantine := nextQuarantine s before after } }
    let s := (heardOrGone sender before after).foldl (fun s k => mcWithdraw (.lapse k.val 0) s) s
    (leftLapsed before after).foldl (fun s k => mcWithdraw (.free k.val) s) s
  else s

/-- MC on an own frame applied in JOINED or LEAVING: the presence timer restarts, and a PRESENT request not begun is
withdrawn (R80). -/
def presenceNotice (f : Frame) (own : Bool) (s : State) : State :=
  if own = true ∧ (s.mc.phase = .joined ∨ s.mc.phase = .leaving) then
    let s := { s with mc := { s.mc with presence := startMs (tPresence s) } }
    if f.body.kind = .present then s else mcWithdraw .present s
  else s

/-! ## BA's notice -/

/-- BA on an applied own CLAIM or RELEASE: the side ends (R167, R172); after a RELEASE the bound is lifted and the idle
mark cleared (R169). -/
def baNotice (f : Frame) (own : Bool) (s : State) : State :=
  if own then
    match f.body.kind with
    | .claim => { s with ba := { s.ba with claim := .none } }
    | .release =>
      { s with ba := { s.ba with release := .none, bound := none, idleMark := false, idleTimer := none } }
    | _ => s
  else s

/-! ## The phase change an application brings -/

/-- A JOIN refused DUPLICATE (R71; log 39). -/
def duplicateRefusal (s : State) : State :=
  let s := postRefusal .duplicate { s with mc := { s.mc with dupCount := s.mc.dupCount + 1 } }
  if s.mc.dupCount = 1 then mcRequest .leave s else enterFault .duplicateNumber s

/-- A JOIN refused LAPSED (R72), in FOUNDING too, where the rejoin timer then runs (log 54). -/
def lapsedRefusal (s : State) : State := startRejoin (postRefusal .lapsed s)

/-- The refusal of the own JOIN in FOUNDING or JOINING (R70 to R72), or the end of a pending stop (R88). -/
def joinRefusedOutcome (r : JoinRefusal) (s : State) : State :=
  match s.mc.pendingStop with
  | some c => enterOffline c s
  | none =>
    match r with
    | .poolMismatch => enterFault .poolMismatch s
    | .duplicate => duplicateRefusal s
    | .lapsed => lapsedRefusal s

/-- The acceptance of the own JOIN in FOUNDING or JOINING (R70), and the LEAVING of a pending stop after it (R88). -/
def joinAcceptedOutcome (s : State) : State :=
  match s.mc.pendingStop with
  | some c => enterLeaving c (enterJoined s)
  | none => enterJoined s

/-- MC requests the JOIN again, the rejoin timer stopped (R71, R72). -/
def renewJoin (s : State) : State := mcRequest (joinBody s) { s with mc := { s.mc with rejoin := none } }

/-- MC's act on an application in FOUNDING or JOINING: the outcome of the own JOIN, the own LEAVE of R71, and a FREE of the
own entry while the rejoin timer runs (R72). -/
def joinerOutcome (own : Bool) (eff : Effect) (f : Frame) (s : State) : State :=
  match eff with
  | .joined _ _ => if own then joinAcceptedOutcome s else s
  | .joinRefused r => if own then joinRefusedOutcome r s else s
  | .freed t _ _ => if t = s.num ∧ s.mc.rejoin.isSome = true then renewJoin s else s
  | _ => if own = true ∧ f.body.kind = .leave then renewJoin s else s

/-- Founding is abandoned (R67): MC withdraws its requests not begun, the table is discarded, SYNCING is entered. -/
def abandonFounding (s : State) : State :=
  let s := mcWithdraw (joinBody s) (mcWithdraw .leave { s with mc := { s.mc with held := [] } })
  enterSyncing .foundingAbandoned (discardTable s)

/-- The own entry was lapsed with effect. -/
def ownLapsed (eff : Effect) (s : State) : Bool :=
  match eff with
  | .lapsed t _ _ => t == s.num
  | _ => false

/-- The own JOIN refused in a phase it does not change (R63, R87): PHASE posted for DUPLICATE and LAPSED, the causes R63 names,
and none for POOL_MISMATCH; nothing of R70 to R72 (log 41). -/
def lateRefusal (own : Bool) (eff : Effect) (s : State) : State :=
  match eff with
  | .joinRefused .duplicate => if own then postRefusal .duplicate s else s
  | .joinRefused .lapsed => if own then postRefusal .lapsed s else s
  | _ => s

/-- MC's act on an application in JOINED or LEAVING: one phase and one cause (R90, R91, R123), the own LEAVE (R86), and the
refusal of an own JOIN that STOP found in transmission (R87). -/
def memberOutcome (f : Frame) (own diverged : Bool) (eff : Effect) (s : State) : State :=
  if own = false ∧ f.sender = s.num then enterFault .duplicateNumber s
  else if ownLapsed eff s then enterOut .lapsed s
  else if diverged then enterOut .diverged s
  else if own = true ∧ f.body.kind = .leave ∧ s.mc.phase = .leaving then enterOffline s.mc.cause s
  else lateRefusal own eff s

/-- The phase change of an application, taken when it is complete (R61). `foreignOrder` is MC's comparison of R67. -/
def phaseOutcome (f : Frame) (own diverged foreignOrder : Bool) (eff : Effect) (s : State) : State :=
  match s.mc.phase with
  | .founding => if foreignOrder then abandonFounding s else joinerOutcome own eff f s
  | .joining => if diverged then enterOut .diverged s else joinerOutcome own eff f s
  | .joined => memberOutcome f own diverged eff s
  | .leaving => memberOutcome f own diverged eff s
  | .offline => s
  | .listen => s
  | .syncing => s
  | .out => s
  | .fault => s

/-- The counts that the acceptance of an own JOIN clears (R70, R93). -/
def clearJoinCounts (own : Bool) (eff : Effect) (s : State) : State :=
  match eff with
  | .joined _ _ =>
    if own then
      { s with lif := { s.lif with lineFaultOut := 0 }, mc := { s.mc with dupCount := 0 } }
    else s
  | _ => s

/-! ## One application -/

/-- The notices of R27, to the Claim Arithmetic, MC, BA and TU (log 9). -/
def notices (f : Frame) (own : Bool) (eff : Effect) (before : Table) (after : Table) (s : State) : State :=
  let s := budgetEvents f.sender eff before.image (watchNotice f own before.image after.image s)
  let s := memberEvents f.sender eff (peerNotice f.sender before.image after.image (presenceNotice f own s))
  let s := clearJoinCounts own eff s
  tuNotice f own eff after (refresh (baNotice f own s))

/-- The application of an accepted frame to the table held (R21). -/
def applyFrame (f : Frame) (own : Bool) (t : Table) (s : State) : State :=
  let r := t.apply f.sender f.body
  let diverged := concludesDivergence f own t s
  let foreignOrder := f.body.kind != .syncreq && f.order != t.n
  let s := { acCompare f own t s with table := some r.1 }
  phaseOutcome f own diverged foreignOrder r.2 (notices f own r.2 t r.1 s)

end Sys2Proof.Machine
end

