-- ==== Sys2Proof/Machine/Operands.lean ====
section
/-! DEFINITION. What the operands of a command say: the receive checks on the characters of a frame (R129 to R131), and
the parameter bytes of the host commands (R156). -/

namespace Sys2Proof.Machine

/-! ## Receiving a frame -/

/-- A good sender byte: recessive stop bit and a value 0-31 (R129). -/
def goodSender (c : RxChar) : Option Station := if c.stop then stationOf c.byte.toNat else none

/-- What the receive checks find of a frame once it has ended. -/
inductive Received where
  /-- R129: lost to this station -/
  | senderFailed
  /-- R131 -/
  | truncated
  /-- R130 -/
  | failed (failure : FailKind)
  /-- passed this station's receive checks -/
  | passed (frame : Frame)
  deriving DecidableEq, Repr

/-- The checks on a frame of a known kind, in the order their failures arise on the line (R130, R131, R152; log 14): FRAMING
within the kind's characters, in a frame that ends short of them too, as one cut by a held line does; a frame so short
without it is truncated; then CHECK, LENGTH. -/
def receiveKind (k : FrameKind) (chars : List RxChar) : Received :=
  let own := chars.take (frameLength k)
  if own.any (fun c => !c.stop) then .failed .framing
  else if chars.length < frameLength k then .truncated
  else
    let content := (own.take (frameLength k - 2)).map (·.byte)
    if wordBytes (crc16 content) ≠ (own.drop (frameLength k - 2)).map (·.byte) then .failed .check
    else if chars.length > frameLength k then .failed .length
    else
      match decodeContent content with
      | some f => .passed f
      | none => .failed .check

/-- The receive checks of R129 to R131 over the characters of a frame, sender byte first. -/
def receive (chars : List RxChar) : Received :=
  match chars with
  | [] => .truncated
  | c :: rest =>
    match goodSender c with
    | none => .senderFailed
    | some _ =>
      match rest with
      | [] => .truncated
      | k :: _ =>
        match kindOfCode k.byte with
        | none => if k.stop then .failed .kind else .failed .framing
        | some kind => receiveKind kind chars

/-- The characters a receiver reads of bytes sent whole: each with its stop bit recessive (R127). -/
def cleanChars (bytes : List Byte) : List RxChar := bytes.map (fun b => { byte := b, stop := true })

/-- In its sender byte a sender has read dominant where it sent recessive (R127, R137): a data bit of 1 that reads 0, or the
stop bit. -/
def lostBits (sent : Byte) (read : RxChar) : Bool := !read.stop || sent &&& ~~~read.byte != 0

/-! ## Host commands -/

/-- The command codes of R156. -/
def codeReadStatus : Byte := 0x20
def codeReadEntry : Byte := 0x21
def codeReadWaitList : Byte := 0x22
def codeReadChannel : Byte := 0x23
def codeReadConfig : Byte := 0x24
def codeReadFlags : Byte := 0x25
def codePopEvent : Byte := 0x26
def codeWriteConfig : Byte := 0x40
def codeSetDemand : Byte := 0x41
def codeWriteEnables : Byte := 0x42
def codeClearFlags : Byte := 0x43
def codeClearFault : Byte := 0x44
def codeStart : Byte := 0x60
def codeStop : Byte := 0x61
def codeReset : Byte := 0x6F

/-- The number of parameter bytes a command code calls for (R156); none for a byte that is no code. -/
def parameterCount (code : Byte) : Option Nat :=
  if code = codeReadEntry ∨ code = codeReadChannel ∨ code = codeWriteEnables ∨ code = codeClearFlags
      ∨ code = codeClearFault then some 1
  else if code = codeSetDemand then some 3
  else if code = codeWriteConfig then some 25
  else if code = codeReadStatus ∨ code = codeReadWaitList ∨ code = codeReadConfig ∨ code = codeReadFlags
      ∨ code = codePopEvent ∨ code = codeStart ∨ code = codeStop ∨ code = codeReset then some 0
  else none

/-- The result bytes of R156. -/
def accepted : Byte := 0x00
def refusedPhase : Byte := 0x81
def refusedRange : Byte := 0x82
def refusedConfig : Byte := 0x83
def refusedThermal : Byte := 0x84
def refusedFaultActive : Byte := 0x85
def emptyResult : Byte := 0x90

/-- The channel a channel byte names, when it names one (R192). -/
def channelOf (n : Nat) : Option Channel := if h : n < 4 then some ⟨n, h⟩ else none

end Sys2Proof.Machine
end

