-- ==== Sys2Proof/Machine/HostReads.lean ====
section
/-! DEFINITION. The records the host reads (R157, R158) and the host port's transaction (R196): when a command is taken,
and its answer. -/

namespace Sys2Proof.Machine

/-! ## Records -/

/-- A byte that reads 0xFF when there is nothing to report (R158). -/
def orNone (o : Option Nat) : Byte :=
  match o with
  | some n => loByte n
  | none => 0xFF

/-- The table fields of the status record, 0 while no table is held (R29, R158): offsets 3 to 14. -/
def tableStatus (t : Option Table) : List Byte :=
  match t with
  | some t =>
    1 :: poolBytes t.image.pool ++ wordBytes t.n ++ wordBytes t.digest ++ bytes2 t.image.freeUnits ++
      [loByte t.image.wait.length]
  | none => List.replicate 12 0

/-- The joiner and responder side of TU (R114, R158): offsets 15 to 24. -/
def tuStatus (tu : Tu) : List Byte :=
  [loByte (joinerCode tu.joiner), loByte tu.attempt, loByte tu.catchUp.length, loByte tu.pieces.length,
    orNone (tu.responder.map (·.val))] ++
    match tu.snapshot with
    | some n => [1, loByte n.joiner.val] ++ wordBytes n.base ++ [loByte n.next]
    | none => [0, 0xFF, 0, 0, 0xFF]

/-- AC's state code (R116, R158). -/
def acCode (p : Phase) (ac : Ac) : Byte := if !acActive p then 0 else if ac.doubt.isNone then 1 else 2

/-- The last-disagreement record in the status record; 0 while it is empty (R158): offsets 29 to 40. -/
def disagreementStatus (d : Option Disagreement) : List Byte :=
  match d with
  | some d =>
    [1, loByte d.sender.val, kindCode d.kind] ++ wordBytes d.order ++ wordBytes d.digest ++ wordBytes d.localN ++
      wordBytes d.localDigest ++ [loByte (mismatchCode d.mismatch)]
  | none => List.replicate 12 0

/-- AC in the status record (R126, R158): offsets 25 to 40; the doubt timer's run in whole milliseconds, a part of one cut off
(log 49). -/
def acStatus (p : Phase) (ac : Ac) : List Byte :=
  [acCode p ac, orNone (ac.doubt.map (·.val))] ++ bytes2 (match ac.timer with
    | some t => t.run / 1000
    | none => 0) ++ disagreementStatus ac.last

/-- LIF holds a grid (R135), from the first start bit it hears on (R127; log 50). -/
def Lif.hasGrid (lif : Lif) : Bool := lif.line != .noGrid

/-- The head of OQ in the status record (R150, R158): offsets 48 to 51. -/
def headStatus (queue : List Request) : List Byte :=
  match queue with
  | r :: _ => [kindCode r.body.kind, orNone r.body.target, loByte r.attempts, boolByte r.inTransmission]
  | [] => [0, 0xFF, 0, 0]

/-- The line state in the status record (R150, R158): offsets 41 to 52. -/
def lifStatus (rate : Fin 4) (lif : Lif) : List Byte :=
  [loByte rate.val, boolByte lif.hasGrid, loByte lif.lastSender.val, loByte lif.selfObjection, loByte lif.lineFaultOut,
    loByte (failureCode lif.lastFailure), loByte lif.queue.length] ++ headStatus lif.queue ++ [boolByte lif.kept.isSome]

/-- The status record (R158). -/
def statusRecord (s : State) : List Byte :=
  [loByte s.num.val, loByte (phaseCode s.mc.phase), loByte (causeCode s.mc.cause)] ++ tableStatus s.table ++
    tuStatus s.tu ++ acStatus s.mc.phase s.ac ++ lifStatus s.rate s.lif ++
    [loByte (thermalCode s.tm.state), orNone (s.tm.sample.map tempCode)] ++ bytes2 s.ba.demand ++ bytes2 s.ba.cap ++
    [loByte s.hp.events.length]

/-- The place of a station in the wait list, head 0 (R157). -/
def placeOf (wait : List WaitRecord) (k : Station) : Option Nat := wait.findIdx? (fun w => w.station == k)

/-- The entry record (R157). -/
def entryRecord (t : Table) (k : Station) : List Byte :=
  loByte k.val :: entryBytes t.image.entries[k] ++ [orNone (placeOf t.image.wait k)] ++ wordBytes t.n ++
    wordBytes t.digest

/-- The wait-list record (R157). -/
def waitListRecord (t : Table) : List Byte :=
  wordBytes t.n ++ wordBytes t.digest ++ loByte t.image.wait.length :: t.image.wait.flatMap waitBytes

/-- The channel record (R157, R194). -/
def channelRecord (s : State) (c : Channel) : List Byte :=
  let ch := s.co.channels[c]
  loByte c.val :: bytes2 (rating s.inUse c) ++ bytes2 ch.demand ++ bytes2 ch.staged ++ bytes2 ch.applied ++
    [boolByte ch.faulted, boolByte ch.input]

/-! ## The transaction (R196, R197) -/

/-- The command with this code and these parameter bytes can be taken now: its command byte, or its last parameter byte,
is the next byte of the transaction (log 13). -/
def portReady (code : Byte) (params : List Byte) (s : State) : Bool :=
  !s.inReset &&
    match s.hp.port with
    | .command => true
    | .parameters c got => c == code && got == params.take got.length && got.length < params.length
    | .idle => false
    | .response _ => false
    | .drain => false

/-- The result byte and the response of a command taken (R196): they are clocked out from the next byte on, and 0x00 stood
on the data output until now. -/
def answer (bytes : List Byte) (s : State) : State :=
  { s with hp := { s.hp with port := .response bytes, dataOut := some 0 } }

/-- A command taken when the transaction allows it, and nothing otherwise. -/
def taken (code : Byte) (params : List Byte) (effect : State → State) (s : State) : State :=
  if portReady code params s then effect s else s

end Sys2Proof.Machine
end

