-- ==== Sys2Proof/Machine/HostActions.lean ====
section
/-! DEFINITION. The reset of the part (section 10.6) and what each host command does and answers at the moment it is taken
(section 10.2). The commands' own rows are in HostCmds.lean. -/

namespace Sys2Proof.Machine

/-! ## Resets -/

/-- The channels after a reset, each mark as its fault input stands (R195). -/
def resetChannels (s : State) : Vector Load 4 := tabulate 4 (fun c => Load.reset s.co.channels[c].input)

/-- Power-on reset or RESETN is in force (R216): every block in its reset state, values in use and stored block at their
defaults, the straps not sampled yet, the pins as they stand. -/
def hardReset (s : State) : State :=
  { State.reset with
    num := s.num, rate := s.rate, inReset := true
    co := { channels := resetChannels s, counter := 0 }
    hp := Hp.reset s.hp.csLow
    free := s.free, pending := s.pending }

/-- The RESET command (R217, R218): every block in its reset state; straps, stored block, values in use and the port's
transaction are kept. -/
def softReset (s : State) : State :=
  { State.reset with
    num := s.num, rate := s.rate, inUse := s.inUse
    co := { channels := resetChannels s, counter := 0 }
    hp := { s.hp with events := [], flags := 0, enables := 0 }
    free := s.free, pending := s.pending }

/-- The end of power-on reset or RESETN with these strap levels (R206, R216). -/
def endReset (num : Station) (rate : Fin 4) (s : State) : State :=
  { hardReset s with num := num, rate := rate, inReset := false }

/-! ## Reads (R199) -/

/-- READ STATUS. -/
def readStatusTaken (s : State) : State := answer (accepted :: statusRecord s) s

/-- READ ENTRY (R28, R29). -/
def readEntryTaken (entry : Nat) (s : State) : State :=
  match stationOf entry with
  | none => answer [refusedRange] s
  | some k =>
    match s.table with
    | none => answer [emptyResult] s
    | some t => answer (accepted :: entryRecord t k) s

/-- READ WAIT LIST (R28, R29). -/
def readWaitListTaken (s : State) : State :=
  match s.table with
  | none => answer [emptyResult] s
  | some t => answer (accepted :: waitListRecord t) s

/-- READ CHANNEL (R194). -/
def readChannelTaken (channel : Nat) (s : State) : State :=
  match channelOf channel with
  | none => answer [refusedRange] s
  | some c => answer (accepted :: channelRecord s c) s

/-- READ CONFIG (R199): the stored block. -/
def readConfigTaken (s : State) : State := answer (accepted :: configBytes s.hp.stored) s

/-- READ FLAGS (R199). -/
def readFlagsTaken (s : State) : State := answer [accepted, s.hp.flags, s.hp.enables] s

/-- POP EVENT (R209). -/
def popEventTaken (s : State) : State :=
  match s.hp.events with
  | [] => answer [emptyResult] s
  | e :: rest => answer (accepted :: eventBytes e) { s with hp := { s.hp with events := rest } }

/-! ## Writes -/

/-- WRITE CONFIG (R202). -/
def writeConfigTaken (block : ConfigBlock) (s : State) : State :=
  if s.mc.phase = .offline ∨ s.mc.phase = .fault then
    answer [accepted] { s with hp := { s.hp with stored := block } }
  else answer [refusedPhase] s

/-- The largest demand of a channel (R192). -/
def demandLimit : Nat := 1000

/-- A channel's demand stored (R192). -/
def setChannelDemand (c : Channel) (demand : Nat) (s : State) : State :=
  { s with
    co := { s.co with channels := s.co.channels.set c { s.co.channels[c] with demand := demand } } }

/-- SET DEMAND (R192): stored, and BA forms D and stages again. -/
def setDemandTaken (channel demand : Nat) (s : State) : State :=
  match channelOf channel with
  | none => answer [refusedRange] s
  | some c =>
    if demandLimit < demand then answer [refusedRange] s
    else answer [accepted] (refresh (setChannelDemand c demand s))

/-- WRITE ENABLES (R214). -/
def writeEnablesTaken (enables : Byte) (s : State) : State :=
  answer [accepted] { s with hp := { s.hp with enables := enables } }

/-- CLEAR FLAGS (R213). -/
def clearFlagsTaken (mask : Byte) (s : State) : State :=
  answer [accepted] { s with hp := { s.hp with flags := s.hp.flags &&& ~~~mask } }

/-- The causes of CHANNEL_FAULT (R159). -/
def faultSet : Nat := 1
def faultCleared : Nat := 2

/-- A channel's FAULTED mark (R190, R191). -/
def markFaulted (c : Channel) (b : Bool) (s : State) : State :=
  { s with
    co := { s.co with channels := s.co.channels.set c { s.co.channels[c] with faulted := b } } }

/-- CLEAR FAULT (R191). -/
def clearFaultTaken (channel : Nat) (s : State) : State :=
  match channelOf channel with
  | none => answer [refusedRange] s
  | some c =>
    if s.co.channels[c].input then answer [refusedFaultActive] s
    else if s.co.channels[c].faulted then
      answer [accepted] (refresh (postOwn .channelFault c.val faultCleared (markFaulted c false s)))
    else answer [accepted] s

/-! ## Actions -/

/-- The blocks take their values in use (R205), the period counter restarts (R193), the line-fault OUT count is cleared
(R93). -/
def handOut (s : State) : State :=
  { s with
    inUse := s.hp.stored
    co := { s.co with counter := 0 }
    lif := { s.lif with lineFaultOut := 0 } }

/-- START (R200). -/
def startTaken (s : State) : State :=
  if s.mc.phase ≠ .offline ∧ s.mc.phase ≠ .fault then answer [refusedPhase] s
  else if configValid s.hp.stored = false then answer [refusedConfig] s
  else if s.tm.state = .cut then answer [refusedThermal] s
  else answer [accepted] (refresh (enterListen .started (handOut s)))

/-- STOP (R201). -/
def stopTaken (s : State) : State :=
  match s.mc.phase with
  | .joined => answer [accepted] (enterLeaving .stopped s)
  | .joining => answer [accepted] (stopJoining .stopped s)
  | .offline => answer [refusedPhase] s
  | .listen => answer [refusedPhase] s
  | .founding => answer [refusedPhase] s
  | .syncing => answer [refusedPhase] s
  | .leaving => answer [refusedPhase] s
  | .out => answer [refusedPhase] s
  | .fault => answer [refusedPhase] s

/-- RESET (R217). -/
def resetTaken (s : State) : State := answer [accepted] (softReset s)

/-- A command byte that is no known code (R196). -/
def unknownTaken (s : State) : State := answer [refusedRange] s

/-- The command of a code with all its parameter bytes (R156, R196). -/
def runCommand (code : Byte) (params : List Byte) (s : State) : State :=
  match params with
  | [] =>
    if code = codeReadStatus then readStatusTaken s
    else if code = codeReadWaitList then readWaitListTaken s
    else if code = codeReadConfig then readConfigTaken s
    else if code = codeReadFlags then readFlagsTaken s
    else if code = codePopEvent then popEventTaken s
    else if code = codeStart then startTaken s
    else if code = codeStop then stopTaken s
    else if code = codeReset then resetTaken s
    else unknownTaken s
  | [p] =>
    if code = codeReadEntry then readEntryTaken p.toNat s
    else if code = codeReadChannel then readChannelTaken p.toNat s
    else if code = codeWriteEnables then writeEnablesTaken p s
    else if code = codeClearFlags then clearFlagsTaken p s
    else if code = codeClearFault then clearFaultTaken p.toNat s
    else unknownTaken s
  | [c, d1, d0] => if code = codeSetDemand then setDemandTaken c.toNat (natOf2 d1 d0) s else unknownTaken s
  | _ =>
    match configOfBytes params with
    | some block => if code = codeWriteConfig then writeConfigTaken block s else unknownTaken s
    | none => unknownTaken s

end Sys2Proof.Machine
end

