-- ==== Sys2Proof/Machine/HostCmds.lean ====
section
/-! DEFINITION. The commands at the host port: chip select, bytes, and one meaning for each command of R156. -/

namespace Sys2Proof.Machine

/-! ## The port's pins and bytes (R196) -/

/-- CHIP_SELECT_FALL: a falling edge starts a transaction from IDLE; in reset only the pin is followed (log 27). -/
def execChipSelectFall (s : State) : Host.Outcome State Fault Refusal :=
  if s.hp.csLow then .next s
  else if s.inReset then .next { s with hp := { s.hp with csLow := true } }
  else
    match s.hp.port with
    | .idle => .next { s with hp := { s.hp with csLow := true, port := .command, dataOut := some 0 } }
    | _ => .next { s with hp := { s.hp with csLow := true } }

/-- CHIP_SELECT_RISE: IDLE from any state, the data output not driven. -/
def execChipSelectRise (s : State) : Host.Outcome State Fault Refusal :=
  if s.inReset then .next { s with hp := { s.hp with csLow := false } }
  else .next { s with hp := { s.hp with csLow := false, port := .idle, dataOut := none } }

/-- UNKNOWN_COMMAND: a command byte that is no code. -/
def execUnknownCommand (code : Byte) (s : State) : Host.Outcome State Fault Refusal :=
  if parameterCount code = none ∧ s.inReset = false ∧ s.hp.port = .command then .next (unknownTaken s) else .next s

/-- A byte complete in PARAMETERS: the last one takes the command. -/
def parameterByte (code : Byte) (got : List Byte) (data : Byte) (s : State) : State :=
  if parameterCount code = some (got.length + 1) then runCommand code (got ++ [data]) s
  else { s with hp := { s.hp with port := .parameters code (got ++ [data]), dataOut := some 0 } }

/-- A byte complete in COMMAND: the command byte. -/
def commandByte (data : Byte) (s : State) : State :=
  match parameterCount data with
  | none => unknownTaken s
  | some 0 => runCommand data [] s
  | some (_ + 1) => { s with hp := { s.hp with port := .parameters data [], dataOut := some 0 } }

/-- A byte clocked out in RESPONSE: the next byte of the result and response; after the last, DRAIN. -/
def responseByte (rest : List Byte) (s : State) : State :=
  match rest with
  | [] => { s with hp := { s.hp with port := .drain, dataOut := some 0 } }
  | [b] => { s with hp := { s.hp with port := .drain, dataOut := some b } }
  | b :: bs => { s with hp := { s.hp with port := .response bs, dataOut := some b } }

/-- HOST_BYTE_COMPLETE: the eighth clock edge of a byte. -/
def execHostByteComplete (data : Byte) (s : State) : Host.Outcome State Fault Refusal :=
  if s.inReset then .next s
  else
    match s.hp.port with
    | .idle => .next s
    | .command => .next (commandByte data s)
    | .parameters code got => .next (parameterByte code got data s)
    | .response rest => .next (responseByte rest s)
    | .drain => .next { s with hp := { s.hp with dataOut := some 0 } }

/-! ## Reads -/

/-- READ_STATUS. -/
def execReadStatus (s : State) : Host.Outcome State Fault Refusal := .next (taken codeReadStatus [] readStatusTaken s)

/-- READ_ENTRY. -/
def execReadEntry (entry : Nat) (s : State) : Host.Outcome State Fault Refusal :=
  .next (taken codeReadEntry [loByte entry] (readEntryTaken entry) s)

/-- READ_WAIT_LIST. -/
def execReadWaitList (s : State) : Host.Outcome State Fault Refusal :=
  .next (taken codeReadWaitList [] readWaitListTaken s)

/-- READ_CHANNEL. -/
def execReadChannel (channel : Nat) (s : State) : Host.Outcome State Fault Refusal :=
  .next (taken codeReadChannel [loByte channel] (readChannelTaken channel) s)

/-- READ_CONFIG. -/
def execReadConfig (s : State) : Host.Outcome State Fault Refusal := .next (taken codeReadConfig [] readConfigTaken s)

/-- READ_FLAGS. -/
def execReadFlags (s : State) : Host.Outcome State Fault Refusal := .next (taken codeReadFlags [] readFlagsTaken s)

/-- POP_EVENT. -/
def execPopEvent (s : State) : Host.Outcome State Fault Refusal := .next (taken codePopEvent [] popEventTaken s)

/-! ## Writes -/

/-- WRITE_CONFIG. -/
def execWriteConfig (block : ConfigBlock) (s : State) : Host.Outcome State Fault Refusal :=
  .next (taken codeWriteConfig (configBytes block) (writeConfigTaken block) s)

/-- SET_DEMAND. -/
def execSetDemand (channel demand : Nat) (s : State) : Host.Outcome State Fault Refusal :=
  .next (taken codeSetDemand (loByte channel :: bytes2 demand) (setDemandTaken channel demand) s)

/-- WRITE_ENABLES. -/
def execWriteEnables (enables : Byte) (s : State) : Host.Outcome State Fault Refusal :=
  .next (taken codeWriteEnables [enables] (writeEnablesTaken enables) s)

/-- CLEAR_FLAGS. -/
def execClearFlags (mask : Byte) (s : State) : Host.Outcome State Fault Refusal :=
  .next (taken codeClearFlags [mask] (clearFlagsTaken mask) s)

/-- CLEAR_FAULT. -/
def execClearFault (channel : Nat) (s : State) : Host.Outcome State Fault Refusal :=
  .next (taken codeClearFault [loByte channel] (clearFaultTaken channel) s)

/-! ## Actions -/

/-- START. -/
def execStart (s : State) : Host.Outcome State Fault Refusal := .next (taken codeStart [] startTaken s)

/-- STOP. -/
def execStop (s : State) : Host.Outcome State Fault Refusal := .next (taken codeStop [] stopTaken s)

/-- RESET. -/
def execReset (s : State) : Host.Outcome State Fault Refusal := .next (taken codeReset [] resetTaken s)

end Sys2Proof.Machine
end

