-- ==== Sys2Proof/Machine/Line.lean ====
section
/-! DEFINITION. The share line as LIF drives and reads it (sections 6.2 to 6.5): the start of an attempt, the end of its
sender byte, a lost start, the end of a frame and what each end brings to the request and its requesters. -/

namespace Sys2Proof.Machine

/-! ## The rotation (R127, R135) -/

/-- The character time in microseconds at a RATE value (R127). -/
def charTime (rate : Fin 4) : Nat := 80 / 2 ^ rate.val

/-- The own access slot (R135). -/
def ownSlot (s : State) : Nat := (s.num.val + 32 - s.lif.lastSender.val - 1) % 32

/-! ## The start of an attempt (R136, R139, R140) -/

/-- The phase permits LIF to start this request (R136). -/
def permits (p : Phase) (r : Request) : Bool :=
  match p with
  | .offline => false
  | .listen => false
  | .founding => true
  | .syncing => r.body.kind == .syncreq || r.inTransmission
  | .joining => true
  | .joined => true
  | .leaving => true
  | .out => r.body.kind == .leave || r.inTransmission
  | .fault => false

/-- The body filled at an attempt's beginning (R140): the delta and the amount asked of BA (R166, R171), the cause of a
LAPSE until its first attempt has begun (R52). -/
def filledBody (r : Request) (s : State) : Body :=
  match r.body with
  | .claim _ => .claim (claimAmount s)
  | .release _ => .release (releaseAmount s)
  | .lapse t c =>
    if r.inTransmission then .lapse t c
    else .lapse t (if r.requesters.ca then lapseRecall else lapseSilent)
  | b => b

/-- BA has given 0 for this body (R140). -/
def Body.zeroAmount (b : Body) : Bool := b == .claim 0 || b == .release 0

/-- The order and the digest of the header (R139); with neither a table nor kept values they are free (log 8). -/
def headerWords (k : FrameKind) (s : State) : Word × Word :=
  if k = .syncreq then (0, 0)
  else
    match s.table, s.lif.kept with
    | some t, _ => (t.n, t.digest)
    | none, some kept => kept
    | none, none => (Config.freeWord s.free, Config.freeWord (s.free + 1))

/-- The frame of an attempt (R139). -/
def attemptFrame (body : Body) (s : State) : Frame :=
  { sender := s.num, order := (headerWords body.kind s).1, digest := (headerWords body.kind s).2, body := body }

/-- The bound that BA takes on at the beginning of a RELEASE attempt (R171). -/
def takeBound (b : Body) (s : State) : State :=
  match b with
  | .release a => stage { s with ba := { s.ba with bound := some a } }
  | _ => s

/-- An attempt of a request at the head of OQ begins with this body (R139). -/
def beginAttempt (r : Request) (rest : List Request) (body : Body) (s : State) : State :=
  takeBound body
    { s with
      lif := { s.lif with
        queue := { r with body := body } :: rest
        line := .sending { bytes := encodeFrame (attemptFrame body s), senderByteEnded := false } }
      free := s.free + 2 }

/-- BA learns of a request of its own that ended: the side goes to NONE, a release lifts the bound (R167, R172). -/
def endBaSide (k : FrameKind) (s : State) : State :=
  match k with
  | .claim => { s with ba := { s.ba with claim := .none } }
  | .release => { s with ba := { s.ba with release := .none, bound := none } }
  | _ => s

/-- A withdrawal for a zero amount (R140): the head leaves OQ, BA is told and tests again, and then the waiting blocks are told.
DESIGN CHOICE: BA's own test comes before the shrink report (log 60). -/
def withdrawZero (k : FrameKind) (rest : List Request) (s : State) : State :=
  shrink (refresh (endBaSide k { s with lif := { s.lif with queue := rest } }))

/-- LIF takes the head of OQ in the own slot; after a withdrawal for a zero amount it takes the new head in the same slot
(R140). `fuel` bounds the withdrawals of one slot (log 30). -/
def takeHead (fuel : Nat) (s : State) : State :=
  match fuel with
  | 0 => s
  | fuel + 1 =>
    match s.lif.queue with
    | [] => s
    | r :: rest =>
      if permits s.mc.phase r then
        if (filledBody r s).zeroAmount then takeHead fuel (withdrawZero r.body.kind rest s)
        else beginAttempt r rest (filledBody r s) s
      else s

/-- The withdrawals of one slot at most: twice the places of OQ. -/
def slotFuel : Nat := 16

/-! ## The end of the sender byte (R141) -/

/-- The requesters of a request learn that its first attempt has begun (R54, R166, R171). -/
def reportBegun (r : Request) (s : State) : State :=
  match r.body with
  | .claim _ => if r.requesters.ba then { s with ba := { s.ba with claim := .sending } } else s
  | .release _ => if r.requesters.ba then { s with ba := { s.ba with release := .sending } } else s
  | .lapse t _ =>
    match stationOf t with
    | some k => if r.requesters.ca = true ∧ s.watches[k] = .requested then setWatch k .sending s else s
    | none => s
  | _ => s

/-- The sender byte of an attempt has ended and the start was not lost (R141): L is the own number; a first attempt makes
the request one in transmission, and refuses the withdrawals held. -/
def endSenderByte (a : Attempt) (s : State) : State :=
  let s := { s with lif := { s.lif with line := .sending { a with senderByteEnded := true }, lastSender := s.num } }
  match s.lif.queue with
  | [] => s
  | r :: rest =>
    if r.inTransmission then s
    else
      reportBegun r
        { s with
          lif := { s.lif with queue := { r with inTransmission := true, heldWithdrawals := .none } :: rest } }

/-! ## Requests that leave OQ -/

/-- The head leaves OQ with its requesters' work ended by the phase: BA's sides settle and it tests again, and then the waiting
blocks are told (log 60). -/
def dropHead (rest : List Request) (s : State) : State :=
  shrink (refresh (baSettle { s with lif := { s.lif with queue := rest } }))

/-- No attempt follows in this phase: a void or lost attempt ends its request (R144). -/
def noRetry (p : Phase) : Bool := p == .fault || p == .offline

/-! ## A lost start (R137) -/

/-- The request at the head after a lost start: in FAULT and OFFLINE it goes (R144, log 16); one in transmission stays, in
LISTEN too, after a START (log 51); of one that has not begun, the withdrawals held take effect (R141), an entry's discard
among them (log 16). -/
def afterLostStart (p : Phase) (r : Request) : Option Request :=
  if noRetry p then none
  else if r.inTransmission then some r
  else if (r.requesters.diff r.heldWithdrawals).isEmpty then none
  else some { r with requesters := r.requesters.diff r.heldWithdrawals, heldWithdrawals := .none }

/-- A sender has lost the line in its sender byte (R137): it receives the rest of the frame, and counts no attempt. -/
def loseStart (s : State) : State :=
  let s := { s with lif := { s.lif with line := .receiving none } }
  match s.lif.queue with
  | [] => s
  | r :: rest =>
    match afterLostStart s.mc.phase r with
    | some r' => { s with lif := { s.lif with queue := r' :: rest } }
    | none => dropHead rest s

/-! ## The end of a frame (R133) -/

/-- The phase counts failures in the self-objection count (R134). -/
def countsFailures (p : Phase) : Bool := !(p == .offline || p == .out || p == .fault)

/-- The phase objects to frames that failed the receive checks (R132). -/
def objects (p : Phase) : Bool := countsFailures p && p != .listen

/-- The count at which the self-objection limit is reached (R134). -/
def selfObjectionLimit : Nat := 8

/-- The attempts at which a request is abandoned (R143). -/
def attemptLimit : Nat := 8

/-- A failure counted; at the limit MC enters OUT with cause LINE_FAULT (R134, R91). -/
def countFailure (s : State) : State :=
  if countsFailures s.mc.phase then
    if selfObjectionLimit ≤ s.lif.selfObjection + 1 then enterOut .lineFault s
    else { s with lif := { s.lif with selfObjection := s.lif.selfObjection + 1 } }
  else s

/-- An accepted frame handed on (R133). -/
def deliver (f : Frame) (own : Bool) (s : State) : State :=
  match s.table with
  | some t => applyFrame f own t s
  | none =>
    match s.mc.phase with
    | .syncing => transferFrame f own s
    | .listen => enterSyncing .heard s
    | .offline => s
    | .founding => s
    | .joining => s
    | .joined => s
    | .leaving => s
    | .out => s
    | .fault => s

/-- The verdict slot of a frame has ended: the rotation goes on from it (R135); `o` says whether this station objected. -/
def endSlot (o : Bool) (s : State) : State := { s with lif := { s.lif with line := .slots 0, objected := o } }

/-- A stop pending on a JOIN that has ended without being applied here is settled in OFFLINE (R88, log 31). -/
def settleStop (s : State) : State :=
  match s.mc.pendingStop with
  | some c => enterOffline c s
  | none => s

/-- The report of acceptance at a station that held no table (R142, R167, R172, R92). -/
def reportAccepted (k : FrameKind) (s : State) : State :=
  match k with
  | .claim => refresh (endBaSide .claim s)
  | .release => refresh (endBaSide .release s)
  | .leave => leaveEnded s
  | .join => settleStop s
  | _ => s

/-- An own attempt ends accepted (R142). -/
def acceptOwn (f : Frame) (s : State) : State :=
  let held := s.table.isSome
  let s := { s with lif := { s.lif with queue := s.lif.queue.tail, selfObjection := 0 } }
  let s := deliver f true s
  shrink (if held then s else reportAccepted f.body.kind s)

/-- MC learns that its part of a LAPSE was abandoned (R82). -/
def mcLapseAbandoned (k : Station) (s : State) : State :=
  if s.mc.phase = .joined ∧ s.image.entries[k].state = .present then
    { s with mc := { s.mc with lastHeard := s.mc.lastHeard.set k (startMs (tPresence s)) } }
  else s

/-- The Claim Arithmetic learns that its part of a LAPSE was abandoned (R55). -/
def caLapseAbandoned (k : Station) (s : State) : State :=
  if s.watches[k] = .sending then setWatch k (if s.image.entries[k].isDebtor then startWatch s else .idle) s else s

/-- MC learns that a JOIN was abandoned: the stop pending on it is settled (R88), or in FOUNDING and JOINING the JOIN is
requested again (R73). -/
def joinAbandoned (s : State) : State :=
  match s.mc.pendingStop with
  | some c => enterOffline c s
  | none => if s.mc.phase = .founding ∨ s.mc.phase = .joining then mcRequest (joinBody s) s else s

/-- A LEAVE abandoned now is the LEAVE of R71: a DUPLICATE refusal is being resolved in FOUNDING or JOINING (log 43). -/
def resolvesDuplicate (s : State) : Bool := (s.mc.phase == .founding || s.mc.phase == .joining) && 0 < s.mc.dupCount

/-- MC learns that a LEAVE was abandoned (R73, R86, R92). The LEAVE of R71 abandoned in SYNCING, after founding was abandoned,
is not requested again (log 42). -/
def leaveAbandoned (s : State) : State :=
  if s.mc.awaitLeave then leaveEnded s
  else if resolvesDuplicate s = true ∨ s.mc.phase = .leaving then mcRequest .leave s
  else s

/-- BA learns that a CLAIM was abandoned: hold-off in JOINED and in LEAVING (R167, log 56), NONE where the table has been
discarded since (R175). -/
def claimAbandoned (s : State) : State :=
  if s.mc.phase = .joined ∨ s.mc.phase = .leaving then
    { s with ba := { s.ba with claim := .holdoff, holdoff := startMs (tPresence s) } }
  else { s with ba := { s.ba with claim := .none } }

/-- MC learns that a FREE was abandoned (R83). -/
def freeAbandoned (k : Station) (s : State) : State :=
  if s.mc.phase = .joined ∧ s.image.entries[k].state = .lapsed then
    { s with mc := { s.mc with quarantine := s.mc.quarantine.set k (startMs s.inUse.tQuar) } }
  else s

/-- TU learns that a piece was abandoned: the snapshot it belongs to ends (R104). -/
def pieceAbandoned (joiner : Nat) (base : Word) (s : State) : State :=
  match s.tu.snapshot with
  | some n =>
    if n.joiner.val = joiner ∧ n.base = base then { s with tu := { s.tu with snapshot := none, pieceHeld := false } }
    else s
  | none => s

/-- Each requester learns that its request was abandoned (R143). -/
def reportAbandoned (r : Request) (s : State) : State :=
  match r.body with
  | .join _ _ _ => joinAbandoned s
  | .leave => leaveAbandoned s
  | .present => s
  | .claim _ => claimAbandoned s
  | .release _ => endBaSide .release s
  | .lapse t _ =>
    match stationOf t with
    | some k =>
      let s := if r.requesters.mc then mcLapseAbandoned k s else s
      if r.requesters.ca then caLapseAbandoned k s else s
    | none => s
  | .free t =>
    match stationOf t with
    | some k => freeAbandoned k s
    | none => s
  | .syncreq _ _ => if s.tu.joiner = .asking then failAttempt s else s
  | .snapshot j b _ _ => pieceAbandoned j b s

/-- The FRAME_ABANDONED event of a request (R143). -/
def postAbandoned (r : Request) (s : State) : State :=
  post .frameAbandoned (r.body.target.getD s.num.val) attemptLimit (kindCode r.body.kind).toNat s

/-- A request is abandoned (R143): it leaves OQ, its requesters are told, the event is posted, the queue has shrunk. -/
def abandon (r : Request) (rest : List Request) (s : State) : State :=
  shrink (postAbandoned r (refresh (reportAbandoned r { s with lif := { s.lif with queue := rest } })))

/-- An own attempt ends void (R143, R144), by the phase at its verdict: one that an entry to OFFLINE or FAULT found on the line
and that ends void in LISTEN, after a START, is kept for a retry (log 51). -/
def voidOwn (s : State) : State :=
  match s.lif.queue with
  | [] => s
  | r :: rest =>
    if noRetry s.mc.phase then dropHead rest s
    else if attemptLimit ≤ r.attempts + 1 then abandon r rest s
    else { s with lif := { s.lif with queue := { r with attempts := r.attempts + 1 } :: rest } }

/-- The frame of an own attempt ends: `readOk` when its read-back did not fail (R138), `objected` when another station
held the verdict slot dominant. -/
def endOwnFrame (a : Attempt) (readOk objected : Bool) (s : State) : State :=
  let s := endSlot (!readOk) s
  if readOk && !objected then
    match receive (cleanChars a.bytes) with
    | .passed f => acceptOwn f s
    | _ => s
  else if readOk then voidOwn s
  else countFailure (voidOwn s)

/-- L after a first character: its value when the sender byte is good (R129). -/
def setSender (first : RxChar) (s : State) : State :=
  match goodSender first with
  | some k => { s with lif := { s.lif with lastSender := k } }
  | none => s

/-- A frame of another station that failed here: recorded, objected to by phase, counted (R130, R132, R134). -/
def failForeign (k : FailKind) (s : State) : State :=
  countFailure
    { endSlot (objects s.mc.phase) s with
      lif := { (endSlot (objects s.mc.phase) s).lif with lastFailure := some k } }

/-- The frame of another station ends, with these characters read (R129 to R134). -/
def endForeignFrame (chars : List RxChar) (objected : Bool) (s : State) : State :=
  let s :=
    match chars with
    | [] => s
    | c :: _ => setSender c s
  match receive chars with
  | .senderFailed => endSlot false s
  | .truncated => endSlot false s
  | .failed k => failForeign k s
  | .passed f =>
    if objected then endSlot false s
    else
      deliver f false
        { endSlot false s with lif := { (endSlot false s).lif with selfObjection := 0 } }

/-- The sender byte of an attempt whose end or loss was not sent as a command of its own, as the characters show it. -/
def settleSenderByte (first : RxChar) (s : State) : State :=
  match s.lif.line with
  | .sending a =>
    if a.senderByteEnded then s
    else if lostBits (a.bytes.headD 0) first then loseStart s
    else endSenderByte a s
  | _ => s

/-- The verdict slot of a frame ends (R133). DESIGN CHOICE: an own attempt whose characters are any but those sent, further
characters after them included, has failed its read-back (R138), and no failure kind of R130 is recorded (log 58). -/
def endFrame (chars : List RxChar) (objected : Bool) (s : State) : State :=
  match chars with
  | [] => s
  | c :: _ =>
    let s := settleSenderByte c s
    match s.lif.line with
    | .sending a => endOwnFrame a (chars == cleanChars a.bytes) objected s
    | _ => endForeignFrame chars objected s

end Sys2Proof.Machine
end

