-- ==== Sys2Proof/Machine/LineCmds.lean ====
section
/-! DEFINITION. The commands of the share line (chapter 6). While a reset is in force no block takes any event (R216); an
event that cannot occur in the state it meets changes nothing (log 2). -/

namespace Sys2Proof.Machine

/-- GRID_ACQUIRED (R135): 20 recessive bit times with no grid; slot 0 begins, one rest gap's length into the rotation. -/
def execGridAcquired (s : State) : Host.Outcome State Fault Refusal :=
  if s.inReset = false ∧ s.lif.line = .noGrid then
    .next { s with lif := { s.lif with line := .slots (charTime s.rate) } }
  else .next s

/-- The line is idle on the grid (R136). -/
def LineState.isIdle (l : LineState) : Bool :=
  match l with
  | .slots _ => true
  | .noGrid => false
  | .receiving _ => false
  | .sending _ => false

/-- ATTEMPT_START (R136): the own slot begins on the idle line. DESIGN CHOICE: the command's word for that instant is taken, at
any place of the rotation, the rest gap included (log 57). -/
def execAttemptStart (s : State) : Host.Outcome State Fault Refusal :=
  if s.inReset = false ∧ s.lif.line.isIdle = true then .next (takeHead slotFuel s) else .next s

/-- LOST_START (R137): in the sender byte of an attempt. -/
def execLostStart (s : State) : Host.Outcome State Fault Refusal :=
  if s.inReset then .next s
  else
    match s.lif.line with
    | .sending a => if a.senderByteEnded then .next s else .next (loseStart s)
    | _ => .next s

/-- SENDER_BYTE_END (R141). -/
def execSenderByteEnd (s : State) : Host.Outcome State Fault Refusal :=
  if s.inReset then .next s
  else
    match s.lif.line with
    | .sending a => if a.senderByteEnded then .next s else .next (endSenderByte a s)
    | _ => .next s

/-- FRAME_RECEPTION_START (R129): the first character of another station's frame has been received, on a line this station
does not send on or has lost in its sender byte (R137). -/
def execFrameReceptionStart (first : RxChar) (s : State) : Host.Outcome State Fault Refusal :=
  if s.inReset then .next s
  else
    match s.lif.line with
    | .noGrid => .next (setSender first { s with lif := { s.lif with line := .receiving (some first) } })
    | .slots _ => .next (setSender first { s with lif := { s.lif with line := .receiving (some first) } })
    | .receiving none => .next (setSender first { s with lif := { s.lif with line := .receiving (some first) } })
    | .receiving (some _) => .next s
    | .sending _ => .next s

/-- FRAME_RECEIVED (R133). -/
def execFrameReceived (chars : List RxChar) (objected : Bool) (s : State) : Host.Outcome State Fault Refusal :=
  if s.inReset then .next s else .next (endFrame chars objected s)

/-- TRUNCATED_FRAME (R131): the frame is discarded, L keeps its sender, the rotation goes on. The command stands at the end of
the character time counted as the frame's verdict slot, as FRAME_RECEIVED does (log 52). A sender never stops by itself (R138),
so no attempt of this station is truncated. -/
def execTruncatedFrame (first : RxChar) (s : State) : Host.Outcome State Fault Refusal :=
  if s.inReset then .next s
  else
    match s.lif.line with
    | .sending _ => .next s
    | _ => .next (endSlot false (setSender first s))

/-- The attempt on the line with its sender byte over. -/
def settledAttempt (a : Attempt) (s : State) : State := if a.senderByteEnded then s else endSenderByte a s

/-- The eighth attempt of the head is on the line in a phase that abandons (R143, R144). -/
def abandonDue (s : State) : Bool :=
  !noRetry s.mc.phase &&
    match s.lif.queue with
    | r :: _ => attemptLimit ≤ r.attempts + 1
    | [] => false

/-- REQUEST_ABANDONED (R143): the eighth attempt of the head ends void by another station's objection (log 6). -/
def execRequestAbandoned (s : State) : Host.Outcome State Fault Refusal :=
  if s.inReset then .next s
  else
    match s.lif.line with
    | .sending a => if abandonDue s then .next (endOwnFrame a true true (settledAttempt a s)) else .next s
    | _ => .next s

/-- SELF_OBJECTION_LIMIT (R134): the frame that brings the count to 8 ends, an own attempt by its read-back, else with this
failure (log 6). DESIGN CHOICE: of a foreign frame the command carries no sender byte, so L stays as an earlier
FRAME_RECEPTION_START set it, and no reception need have been announced (log 61). -/
def execSelfObjectionLimit (failure : FailKind) (s : State) : Host.Outcome State Fault Refusal :=
  if s.inReset = false ∧ countsFailures s.mc.phase = true ∧ selfObjectionLimit ≤ s.lif.selfObjection + 1 then
    match s.lif.line with
    | .sending a => .next (endOwnFrame a false false (settledAttempt a s))
    | _ => .next (failForeign failure s)
  else .next s

end Sys2Proof.Machine
end

