-- ==== Sys2Proof/Machine/LoadCmds.lean ====
section
/-! DEFINITION. The commands of the Thermal Monitor and the Channel Outputs: samples (section 8.6), period boundaries
(section 9.3) and fault inputs (section 9.4). -/

namespace Sys2Proof.Machine

/-! ## Thermal Monitor -/

/-- The sample of a sensor reading (R177). -/
def clampSample (reading : Int) : Int := max (-40) (min 150 reading)

/-- TM's state after a sample, with the thresholds as they are encoded (R157, R179). -/
def nextThermal (c : ConfigBlock) (before : Thermal) (sample : Int) : Thermal :=
  let t := tempCode sample
  if c.cutoff ≤ t then .cut
  else
    match before with
    | .normal => if c.hot ≤ t then .derated else .normal
    | .derated => if c.cool < t then .derated else .normal
    | .cut => if c.cool < t then .cut else .normal

/-- The effects of a change of TM's state (R180, R181): THERMAL posted, on CUT the levels forced to zero and MC's act, and
BA's part. -/
def thermalChange (sample : Int) (after : Thermal) (s : State) : State :=
  let s := postOwn .thermal (tempCode sample) (thermalCode after) { s with tm := { s.tm with state := after } }
  refresh (if after = .cut then cutPhase (forceZeroAll s) else s)

/-- THERMAL_SAMPLE (R177, R179). -/
def execThermalSample (reading : Int) (s : State) : Host.Outcome State Fault Refusal :=
  if s.inReset then .next s
  else
    let sample := clampSample reading
    let after := nextThermal s.inUse s.tm.state sample
    let s' := { s with tm := { s.tm with sample := some sample, clock := 0 } }
    if after = s.tm.state then .next s' else .next (thermalChange sample after s')

/-! ## Channel Outputs -/

/-- A channel's staged level applied (R186). -/
def Load.boundary (c : Load) : Load := { c with applied := c.staged }

/-- The four staged levels applied together, the period counter at 0 (R183, R186). DESIGN CHOICE: a boundary commanded while the
counter is elsewhere is a boundary too, and restarts the counter (log 59). -/
def applyLevels (s : State) : State :=
  { s with co := { channels := tabulate 4 (fun c => s.co.channels[c].boundary), counter := 0 } }

/-- PERIOD_BOUNDARY (R186), with BA's boundary notice, wherever the counter stands (log 59). -/
def execPeriodBoundary (s : State) : Host.Outcome State Fault Refusal :=
  if s.inReset then .next s
  else
    let s := applyLevels s
    .next (refresh { s with ba := { s.ba with boundarySeen := s.ba.boundarySeen || s.mc.phase == .joined } })

/-- A channel's fault input as read (R190). -/
def setInput (c : Channel) (b : Bool) (s : State) : State :=
  { s with
    co := { s.co with channels := s.co.channels.set c { s.co.channels[c] with input := b } } }

/-- FAULT_INPUT_ASSERTED (R190); in reset only the pin is followed (log 27). -/
def execFaultInputAsserted (channel : Channel) (s : State) : Host.Outcome State Fault Refusal :=
  if s.co.channels[channel].input then .next s
  else if s.inReset then .next (setInput channel true s)
  else
    let s' := forceZero channel (setInput channel true s)
    if s.co.channels[channel].faulted then .next (refresh s')
    else .next (refresh (postOwn .channelFault channel.val faultSet (markFaulted channel true s')))

/-- FAULT_INPUT_RELEASED (R190): the mark stays. -/
def execFaultInputReleased (channel : Channel) (s : State) : Host.Outcome State Fault Refusal :=
  .next (setInput channel false s)

end Sys2Proof.Machine
end

