-- ==== Sys2Proof/Machine/ResetCmds.lean ====
section
/-! DEFINITION. The commands of power-on reset and RESETN (R206, R216). -/

namespace Sys2Proof.Machine

/-- POWER_ON_RESET: supply is applied. -/
def execPowerOnReset (s : State) : Host.Outcome State Fault Refusal := .next (hardReset s)

/-- RESETN_LOW: the RESETN input goes low. -/
def execResetnLow (s : State) : Host.Outcome State Fault Refusal := .next (hardReset s)

/-- RESET_END: the reset in force ends, of power-on reset and RESETN overlapping the last of the two (log 53), and the straps
are sampled (a level outside the straps' width, or no reset in force,
is no such event: log 2). -/
def execResetEnd (num rate : Nat) (s : State) : Host.Outcome State Fault Refusal :=
  if s.inReset then
    match stationOf num, (if h : rate < 4 then some (⟨rate, h⟩ : Fin 4) else none) with
    | some n, some r => .next (endReset n r s)
    | _, _ => .next s
  else .next s

end Sys2Proof.Machine
end

