-- ==== Sys2Proof/Machine/TimerCmds.lean ====
section
/-! DEFINITION. The timer expiries. Each has its effect while its timer runs and no reset is in force; a stopped timer does
not expire (log 2), and one that runs expires with its command, whatever its run (log 57). -/

namespace Sys2Proof.Machine

/-- LISTEN_TIMER_EXPIRY (R65, R66): FOUNDING. -/
def execListenTimerExpiry (s : State) : Host.Outcome State Fault Refusal :=
  if s.inReset = false ∧ s.mc.listen.isSome = true then .next (enterFounding s) else .next s

/-- PRESENCE_TIMER_EXPIRY (R80): a PRESENT requested, the timer restarted. -/
def execPresenceTimerExpiry (s : State) : Host.Outcome State Fault Refusal :=
  if s.inReset = false ∧ s.mc.presence.isSome = true then
    .next (mcRequest .present { s with mc := { s.mc with presence := startMs (tPresence s) } })
  else .next s

/-- LAST_HEARD_TIMER_EXPIRY (R81): a LAPSE for silence requested. -/
def execLastHeardTimerExpiry (peer : Station) (s : State) : Host.Outcome State Fault Refusal :=
  if s.inReset = false ∧ s.mc.lastHeard[peer].isSome = true then
    .next
      (mcRequest (.lapse peer.val lapseSilent)
        { s with mc := { s.mc with lastHeard := s.mc.lastHeard.set peer none } })
  else .next s

/-- QUARANTINE_TIMER_EXPIRY (R83): a FREE requested. -/
def execQuarantineTimerExpiry (peer : Station) (s : State) : Host.Outcome State Fault Refusal :=
  if s.inReset = false ∧ s.mc.quarantine[peer].isSome = true then
    .next (mcRequest (.free peer.val) { s with mc := { s.mc with quarantine := s.mc.quarantine.set peer none } })
  else .next s

/-- What the rejoin timer's expiry brings by phase: the end of OUT (R92), or the JOIN again (R72). -/
def rejoinExpired (s : State) : State :=
  match s.mc.phase with
  | .out => rejoin s
  | .founding => renewJoin s
  | .joining => renewJoin s
  | .offline => s
  | .listen => s
  | .syncing => s
  | .joined => s
  | .leaving => s
  | .fault => s

/-- REJOIN_TIMER_EXPIRY (R92, R72). -/
def execRejoinTimerExpiry (s : State) : Host.Outcome State Fault Refusal :=
  if s.inReset = false ∧ s.mc.rejoin.isSome = true then
    .next (rejoinExpired { s with mc := { s.mc with rejoin := none } })
  else .next s

/-- A watch's timer runs (R47). -/
def Watch.isTiming (w : Watch) : Bool :=
  match w with
  | .timing _ => true
  | .idle => false
  | .requested => false
  | .held => false
  | .sending => false

/-- RECALL_TIMER_EXPIRY (R51): a LAPSE with cause RECALL requested. -/
def execRecallTimerExpiry (debtor : Station) (s : State) : Host.Outcome State Fault Refusal :=
  if s.inReset = false ∧ s.watches[debtor].isTiming = true then .next (caRequest debtor s) else .next s

/-- SYNC_TIMER_EXPIRY (R110, R112): the attempt has failed. -/
def execSyncTimerExpiry (s : State) : Host.Outcome State Fault Refusal :=
  if s.inReset = false ∧ s.tu.sync.isSome = true then .next (failAttempt s) else .next s

/-- DOUBT_TIMER_EXPIRY (R122): divergence concluded. -/
def execDoubtTimerExpiry (s : State) : Host.Outcome State Fault Refusal :=
  if s.inReset = false ∧ s.ac.timer.isSome = true then .next (enterOut .diverged s) else .next s

/-- RELEASE_IDLE_TIMER_EXPIRY (R169): the idle mark set while the condition holds, and the tests that follow. -/
def execReleaseIdleTimerExpiry (s : State) : Host.Outcome State Fault Refusal :=
  if s.inReset = false ∧ s.ba.idleTimer.isSome = true then
    .next (refresh { s with ba := { s.ba with idleTimer := none, idleMark := true } })
  else .next s

/-- HOLDOFF_TIMER_EXPIRY (R167): the claim side goes to NONE and BA tests for a claim. -/
def execHoldoffTimerExpiry (s : State) : Host.Outcome State Fault Refusal :=
  if s.inReset = false ∧ s.ba.holdoff.isSome = true then
    .next (refresh { s with ba := { s.ba with holdoff := none, claim := .none } })
  else .next s

end Sys2Proof.Machine
end

