-- ==== Sys2Proof/Machine/Dispatch.lean ====
section
/-! DEFINITION. What each command does to everything but the queue: one arm for each row of the table. -/

namespace Sys2Proof.Machine

/-- The effect of one command. -/
def exec (i : Instr) (s : State) : Host.Outcome State Fault Refusal :=
  match i with
  | .powerOnReset => Sys2Proof.Machine.execPowerOnReset s
  | .resetnLow => Sys2Proof.Machine.execResetnLow s
  | .resetEnd num rate => Sys2Proof.Machine.execResetEnd num rate s
  | .chipSelectFall => Sys2Proof.Machine.execChipSelectFall s
  | .chipSelectRise => Sys2Proof.Machine.execChipSelectRise s
  | .unknownCommand code => Sys2Proof.Machine.execUnknownCommand code s
  | .readStatus => Sys2Proof.Machine.execReadStatus s
  | .readEntry entry => Sys2Proof.Machine.execReadEntry entry s
  | .readWaitList => Sys2Proof.Machine.execReadWaitList s
  | .readChannel channel => Sys2Proof.Machine.execReadChannel channel s
  | .readConfig => Sys2Proof.Machine.execReadConfig s
  | .readFlags => Sys2Proof.Machine.execReadFlags s
  | .popEvent => Sys2Proof.Machine.execPopEvent s
  | .writeConfig block => Sys2Proof.Machine.execWriteConfig block s
  | .setDemand channel demand => Sys2Proof.Machine.execSetDemand channel demand s
  | .writeEnables enables => Sys2Proof.Machine.execWriteEnables enables s
  | .clearFlags mask => Sys2Proof.Machine.execClearFlags mask s
  | .clearFault channel => Sys2Proof.Machine.execClearFault channel s
  | .start => Sys2Proof.Machine.execStart s
  | .stop => Sys2Proof.Machine.execStop s
  | .reset => Sys2Proof.Machine.execReset s
  | .gridAcquired => Sys2Proof.Machine.execGridAcquired s
  | .attemptStart => Sys2Proof.Machine.execAttemptStart s
  | .lostStart => Sys2Proof.Machine.execLostStart s
  | .senderByteEnd => Sys2Proof.Machine.execSenderByteEnd s
  | .frameReceived chars objected => Sys2Proof.Machine.execFrameReceived chars objected s
  | .truncatedFrame first => Sys2Proof.Machine.execTruncatedFrame first s
  | .requestAbandoned => Sys2Proof.Machine.execRequestAbandoned s
  | .selfObjectionLimit failure => Sys2Proof.Machine.execSelfObjectionLimit failure s
  | .listenTimerExpiry => Sys2Proof.Machine.execListenTimerExpiry s
  | .presenceTimerExpiry => Sys2Proof.Machine.execPresenceTimerExpiry s
  | .lastHeardTimerExpiry peer => Sys2Proof.Machine.execLastHeardTimerExpiry peer s
  | .quarantineTimerExpiry peer => Sys2Proof.Machine.execQuarantineTimerExpiry peer s
  | .rejoinTimerExpiry => Sys2Proof.Machine.execRejoinTimerExpiry s
  | .recallTimerExpiry debtor => Sys2Proof.Machine.execRecallTimerExpiry debtor s
  | .syncTimerExpiry => Sys2Proof.Machine.execSyncTimerExpiry s
  | .doubtTimerExpiry => Sys2Proof.Machine.execDoubtTimerExpiry s
  | .releaseIdleTimerExpiry => Sys2Proof.Machine.execReleaseIdleTimerExpiry s
  | .holdoffTimerExpiry => Sys2Proof.Machine.execHoldoffTimerExpiry s
  | .thermalSample reading => Sys2Proof.Machine.execThermalSample reading s
  | .periodBoundary => Sys2Proof.Machine.execPeriodBoundary s
  | .faultInputAsserted channel => Sys2Proof.Machine.execFaultInputAsserted channel s
  | .faultInputReleased channel => Sys2Proof.Machine.execFaultInputReleased channel s
  | .frameReceptionStart first => Sys2Proof.Machine.execFrameReceptionStart first s
  | .hostByteComplete data => Sys2Proof.Machine.execHostByteComplete data s

end Sys2Proof.Machine
end

