-- ==== Sys2Proof/Machine/Tick.lean ====
section
/-! DEFINITION. One microsecond of the part's own clock, taken by a step on an empty queue (log 1): the timers, the period
counter, the slots and the sample interval advance, and what falls due joins the queue as commands. Also the outputs OUT0
to OUT3, which follow from the counter (R184). -/

namespace Sys2Proof.Machine

/-! ## Outputs (R184) -/

/-- The on-time of a channel in microseconds (R184). -/
def onTime (s : State) (c : Channel) : Nat := s.co.channels[c].applied * s.inUse.period / rating s.inUse c

/-- The output of a channel is high (R184, R189, R216). -/
def State.outHigh (s : State) (c : Channel) : Bool := !s.inReset && s.co.counter < onTime s c

/-! ## Timers -/

/-- A running timer one microsecond later. -/
def Timer.tick (t : Timer) : Timer := { t with run := t.run + 1 }

/-- A timer, if it runs, one microsecond later. -/
def tickTimer (t : Option Timer) : Option Timer := t.map Timer.tick

/-- A running timer has reached its length. -/
def dueTimer (t : Option Timer) : Bool :=
  match t with
  | some t => t.length ≤ t.run
  | none => false

/-- A watch one microsecond later. -/
def Watch.tick (w : Watch) : Watch :=
  match w with
  | .timing t => .timing t.tick
  | .idle => .idle
  | .requested => .requested
  | .held => .held
  | .sending => .sending

/-- A watch's timer has reached its length. -/
def Watch.due (w : Watch) : Bool :=
  match w with
  | .timing t => dueTimer (some t)
  | .idle => false
  | .requested => false
  | .held => false
  | .sending => false

/-! ## The rotation -/

/-- The rotation one microsecond later: the rest gap, then slots 0 to 31 repeating (R135). -/
def LineState.tick (char : Nat) (l : LineState) : LineState :=
  match l with
  | .slots clock => .slots (if clock + 1 = 33 * char then char else clock + 1)
  | .noGrid => .noGrid
  | .receiving first => .receiving first
  | .sending a => .sending a

/-- The own slot begins at this instant, and the head of OQ may start (R136). -/
def attemptDue (s : State) : Bool :=
  match s.lif.line, s.lif.queue with
  | .slots clock, r :: _ => clock == charTime s.rate * (1 + ownSlot s) && permits s.mc.phase r
  | _, _ => false

/-! ## The microsecond -/

/-- The interval between samples in microseconds (R177). -/
def sampleInterval : Nat := 8000

/-- The period counter would reach the period in use with the next microsecond: that instant is a boundary (R183). -/
def boundaryDue (s : State) : Bool := s.inUse.period ≤ s.co.counter + 1

/-- Every clock of the part one microsecond on; the period counter returns to 0 at a boundary (R183), and the staged levels
move with the PERIOD_BOUNDARY it brings (log 48). -/
def advance (s : State) : State :=
  { s with
    watches := tabulate 32 (fun k => s.watches[k].tick)
    mc := { s.mc with
      listen := tickTimer s.mc.listen
      presence := tickTimer s.mc.presence
      rejoin := tickTimer s.mc.rejoin
      lastHeard := tabulate 32 (fun k => tickTimer s.mc.lastHeard[k])
      quarantine := tabulate 32 (fun k => tickTimer s.mc.quarantine[k]) }
    tu := { s.tu with sync := tickTimer s.tu.sync }
    ac := { s.ac with timer := tickTimer s.ac.timer }
    lif := { s.lif with line := s.lif.line.tick (charTime s.rate) }
    ba := { s.ba with idleTimer := tickTimer s.ba.idleTimer, holdoff := tickTimer s.ba.holdoff }
    tm := { s.tm with clock := s.tm.clock + 1 }
    co := { s.co with counter := if boundaryDue s then 0 else s.co.counter + 1 } }

/-- A command when a condition holds. -/
def whenDue (b : Bool) (c : Instr) : List Instr := if b then [c] else []

/-- The timers and the sample that fall due when the clocks have advanced to this state, in the order of log 11. -/
def dueCommands (s : State) : List Instr :=
  whenDue (dueTimer s.mc.listen) .listenTimerExpiry ++ whenDue (dueTimer s.mc.presence) .presenceTimerExpiry ++
    whenDue (dueTimer s.mc.rejoin) .rejoinTimerExpiry ++
    stations.flatMap (fun k => whenDue (dueTimer s.mc.lastHeard[k]) (.lastHeardTimerExpiry k)) ++
    stations.flatMap (fun k => whenDue (dueTimer s.mc.quarantine[k]) (.quarantineTimerExpiry k)) ++
    stations.flatMap (fun k => whenDue s.watches[k].due (.recallTimerExpiry k)) ++
    whenDue (dueTimer s.tu.sync) .syncTimerExpiry ++ whenDue (dueTimer s.ac.timer) .doubtTimerExpiry ++
    whenDue (dueTimer s.ba.idleTimer) .releaseIdleTimerExpiry ++ whenDue (dueTimer s.ba.holdoff) .holdoffTimerExpiry ++
    whenDue (sampleInterval ≤ s.tm.clock) (.thermalSample (Config.sensor s.free))

/-- One microsecond with no command waiting (log 1). An access slot that begins at its start comes first. While a reset is
in force no block takes any event (R216). -/
def tick (s : State) : State :=
  if s.inReset then s
  else
    let s' := advance s
    { s' with
      free := if sampleInterval ≤ s'.tm.clock then s.free + 1 else s.free
      pending := s.pending ++ whenDue (attemptDue s) .attemptStart ++ dueCommands s' ++
        whenDue (boundaryDue s) .periodBoundary }

end Sys2Proof.Machine
end

