-- ==== Sys2Proof/Safety.lean ====
section
/-! DEFINITION. The terms in which claims are made: a command that completes, the laws of the table, of OQ, of the phases
and of the Budget Agent, the bounds of the buffers and counts, and the effects that several commands share. -/

namespace Sys2Proof.Machine

/-- The outcome is a next state, and it is as described. -/
def Completes (o : Host.Outcome State Fault Refusal) (p : State → Prop) : Prop := ∃ t, o = .next t ∧ p t

/-! ## The laws of the table (chapter 1) -/

/-- The laws that every table copy meets. -/
structure Image.Lawful (img : Image) : Prop where
  /-- R1: while the pool record is unset, every entry is ABSENT and the wait list is empty -/
  unset : img.pool = none → (∀ k : Station, img.entries[k] = Entry.empty) ∧ img.wait = []
  /-- R1, R23: the values a JOIN sets the pool record to -/
  pool : ∀ p, img.pool = some p →
    1 ≤ p.pool ∧ p.pool ≤ 4000 ∧ 10 ≤ p.interval ∧ p.interval ≤ 1000 ∧ p.interval % 10 = 0
  /-- R5 -/
  floors : img.sumOver Entry.reserved ≤ img.poolUnits
  /-- R7 -/
  holdings : img.sumOver Entry.counted ≤ img.poolUnits
  /-- R4, R7 -/
  absent : ∀ k : Station, img.entries[k].state = .absent → img.entries[k] = Entry.empty
  /-- R4, R8 -/
  lapsed : ∀ k : Station, img.entries[k].state = .lapsed → img.entries[k].recallDue = 0
  /-- R8 -/
  debts : ∀ k : Station, img.entries[k].state = .present →
    img.entries[k].recallDue ≤ img.entries[k].holding - img.entries[k].floor
  /-- R9, R10: one record for a station -/
  onePerStation : (img.wait.map (·.station)).Nodup
  /-- R10 -/
  records : ∀ w ∈ img.wait, img.entries[w.station].state = .present ∧ 1 ≤ w.shortfall ∧
    w.shortfall + img.entries[w.station].holding ≤ img.entries[w.station].floor
  /-- R11 -/
  noneFree : img.wait ≠ [] → img.freeUnits = 0

/-! ## Frames (chapter 7) -/

/-- Every number of a body is within the width of its field (R153), and piece data is 64 bytes. -/
def Body.fits (b : Body) : Bool :=
  match b with
  | .join floor pool interval => floor < 65536 && pool < 65536 && interval < 65536
  | .leave => true
  | .present => true
  | .claim delta => delta < 65536
  | .release amount => amount < 65536
  | .lapse target cause => target < 256 && cause < 256
  | .free target => target < 256
  | .syncreq attempt pool => attempt < 256 && pool < 65536
  | .snapshot joiner _ index data => joiner < 256 && index < 256 && data.length == 64

/-! ## The laws of OQ (section 6.6) -/

/-- OQ is as R145 has it: at most 8 requests, no two of one kind and target, each with a requester and an attempt count of
0 to 7, and none begun but the head. -/
structure Lif.Orderly (lif : Lif) : Prop where
  length : lif.queue.length ≤ 8
  keys : (lif.queue.map (fun r => (r.body.kind, r.body.target))).Nodup
  attempts : ∀ r ∈ lif.queue, r.attempts ≤ 7
  requesters : ∀ r ∈ lif.queue, r.requesters.isEmpty = false
  behind : ∀ r ∈ lif.queue.tail, r.inTransmission = false ∧ r.attempts = 0

/-! ## The laws of the phases (chapter 3) -/

/-- The phases in which a station holds a table between commands (R15; an installation ends in JOINING). -/
def tablePhase (p : Phase) : Bool := p == .founding || p == .joining || p == .joined || p == .leaving

/-- What the phase decides (R15, R62): whether a table is held, which timers run, which blocks are at work. -/
structure State.PhaseLaw (s : State) : Prop where
  /-- R15 -/
  table : s.table.isSome = tablePhase s.mc.phase
  /-- R62, R64 -/
  listen : s.mc.listen.isSome = true → s.mc.phase = .listen
  /-- R62, R80 -/
  presence : s.mc.presence.isSome = true → s.mc.phase = .joined ∨ s.mc.phase = .leaving
  /-- R62, R72, R92 -/
  rejoin : s.mc.rejoin.isSome = true → s.mc.phase = .founding ∨ s.mc.phase = .joining ∨ s.mc.phase = .out
  /-- R62, R81 -/
  lastHeard : ∀ k : Station, s.mc.lastHeard[k].isSome = true → s.mc.phase = .joined
  /-- R62, R83 -/
  quarantine : ∀ k : Station, s.mc.quarantine[k].isSome = true → s.mc.phase = .joined
  /-- R47 -/
  watches : ∀ k : Station, s.watches[k] ≠ .idle → s.mc.phase = .joined
  /-- R47: the own entry is not watched -/
  ownWatch : s.watches[s.num] = .idle
  /-- R116 -/
  doubt : s.ac.doubt.isSome = true → s.mc.phase = .joining ∨ s.mc.phase = .joined ∨ s.mc.phase = .leaving
  /-- R116 -/
  doubtTimer : s.ac.timer.isSome = s.ac.doubt.isSome
  /-- R96 -/
  transfer : s.tu.joiner ≠ .idle → s.mc.phase = .syncing
  /-- R96 -/
  sync : s.tu.sync.isSome = true → s.tu.joiner = .collecting
  /-- R101 -/
  snapshot : s.tu.snapshot.isSome = true → s.mc.phase = .joined
  /-- R169 -/
  idleMark : s.ba.idleTimer.isSome = true ∨ s.ba.idleMark = true → s.mc.phase = .joined
  /-- R167 (log 56) -/
  holdoff : s.ba.holdoff.isSome = true ∨ s.ba.claim = .holdoff → s.mc.phase = .joined ∨ s.mc.phase = .leaving
  /-- R87, R88 (log 31) -/
  pendingStop : s.mc.pendingStop.isSome = true →
    s.mc.phase = .founding ∨ s.mc.phase = .syncing ∨ s.mc.phase = .joining
  /-- R92 -/
  awaitLeave : s.mc.awaitLeave = true → s.mc.phase = .out ∧ s.mc.rejoin = none

/-! ## The laws of the Budget Agent (section 8.1) -/

/-- The staged levels of the channels before a channel. -/
def stagedBefore (s : State) (c : Channel) : Nat :=
  ((channelList.take c.val).map (fun i => s.co.channels[i].staged)).sum

/-- D, C and the staged levels are those of R160, R161 and R162. -/
structure State.BudgetLaw (s : State) : Prop where
  /-- R160 -/
  demand : s.ba.demand = demandTotal s
  /-- R161 -/
  cap : s.ba.cap = capValue s
  /-- R162 -/
  staged : ∀ c : Channel, s.co.channels[c].staged = min (target s c) (budget s - stagedBefore s c)

/-- A request made when a condition holds, with OQ's answer. -/
def Lif.requestIf (lif : Lif) (c : Bool) (body : Body) (b : Block) : Lif × Option Answer :=
  if c then ((lif.request body b).1, some (lif.request body b).2) else (lif, none)

/-- The claim side after OQ's answer to a CLAIM requested; with none requested it stays (R165). -/
def ClaimSide.answered (c : ClaimSide) (a : Option Answer) : ClaimSide :=
  match a with
  | Option.none => c
  | some .refused => .held
  | some .taken => .queued
  | some .begun => .sending

/-- The release side after OQ's answer to a RELEASE requested; with none requested it stays (R170). -/
def ReleaseSide.answered (r : ReleaseSide) (a : Option Answer) : ReleaseSide :=
  match a with
  | Option.none => r
  | some .refused => .held
  | some .taken => .queued
  | some .begun => .sending

/-- BA's idle timer and mark after its test of the condition (R169). -/
def idleTested (u t : State) : Option Timer × Bool :=
  if t.mc.phase = .joined ∧ t.ownWaits = false ∧ min t.ba.demand t.ba.cap < t.ownEntry.holding - t.ownEntry.recallDue then
    if u.ba.idleMark = true ∨ u.ba.idleTimer.isSome = true then (u.ba.idleTimer, u.ba.idleMark)
    else if u.inUse.tIdle = 0 then (none, true)
    else (some { length := u.inUse.tIdle * 1000, run := 0 }, false)
  else (none, false)

/-- From `u`, BA has formed D and C, staged, and made its tests (R160 to R174): a CLAIM requested when both sides were NONE
and Q is above 0, a RELEASE when its side was NONE and the conditions of R170 hold, and in LEAVING the LEAVE at the first
report that the applied levels are all 0, in this order (log 44) and each held when OQ refuses it. Nothing else has changed
but the staged levels and the idle timer and mark. -/
structure Rebudgeted (u t : State) : Prop where
  law : t.BudgetLaw
  rest : { t with ba := u.ba, co := u.co, lif := u.lif, mc := u.mc } = u
  channels : ∀ c : Channel, { t.co.channels[c] with staged := u.co.channels[c].staged } = u.co.channels[c]
  counter : t.co.counter = u.co.counter
  idle : (t.ba.idleTimer, t.ba.idleMark) = idleTested u t
  requests :
    let claim := u.lif.requestIf (u.ba.claim == .none && u.ba.release == .none && 0 < claimAmount t) (.claim 0) .ba
    let release := claim.1.requestIf
      (u.ba.release == .none && (t.mc.phase == .joined && 0 < intendedRelease t &&
        appliedSum t ≤ t.ownEntry.holding - intendedRelease t)) (.release 0) .ba
    let leave := release.1.requestIf (t.mc.phase == .leaving && !u.ba.zeroReported && appliedSum t == 0) .leave .mc
    t.lif = leave.1 ∧
      t.ba = { t.ba with
        claim := u.ba.claim.answered claim.2, release := u.ba.release.answered release.2, bound := u.ba.bound
        holdoff := u.ba.holdoff, boundarySeen := u.ba.boundarySeen
        zeroReported := u.ba.zeroReported || leave.2.isSome } ∧
      t.mc = { u.mc with
        held := if leave.2 = some .refused ∧ u.mc.held.any (fun b => b.kind == .leave) = false then u.mc.held ++ [.leave]
          else u.mc.held }

/-- BA's tests after an application in JOINED where OQ had room and no block waited, `u` being the state whose sides the frame
has ended if it was BA's own (R165, R169, R170, R173; the claim before the release, log 44). -/
structure BudgetTested (u t : State) : Prop where
  law : t.BudgetLaw
  idle : (t.ba.idleTimer, t.ba.idleMark) = idleTested u t
  bound : t.ba.bound = u.ba.bound
  claim : t.ba.claim = if u.ba.claim = .none ∧ u.ba.release = .none ∧ 0 < claimAmount t then .queued else u.ba.claim
  claimed : u.ba.claim = .none → t.ba.claim = .queued →
    ∃ q ∈ t.lif.queue, q.body.kind = .claim ∧ q.requesters.ba = true ∧ q.inTransmission = false
  release : t.ba.release =
    if u.ba.release = .none ∧ 0 < intendedRelease t ∧ appliedSum t ≤ t.ownEntry.holding - intendedRelease t then .queued
    else u.ba.release
  released : u.ba.release = .none → t.ba.release = .queued →
    ∃ q ∈ t.lif.queue, q.body.kind = .release ∧ q.requesters.ba = true ∧ q.inTransmission = false

/-! ## Where the JOIN and the LEAVE stand (chapter 3, section 6.6) -/

/-- A request of this kind is in a list of requests. -/
def has (k : FrameKind) (rs : List Request) : Bool := rs.any (fun r => r.body.kind == k)

/-- An attempt on the line is one of the head of OQ, and where the own JOIN and LEAVE stand by phase: between them, a LEAVE
is not requested while a JOIN may still be accepted, nor carried while the station is JOINED (R71 to R73, R86, R92). -/
structure State.RequestLaw (s : State) : Prop where
  /-- R145: only MC requests a JOIN or a LEAVE -/
  requesters : ∀ r ∈ s.lif.queue, r.body.kind = .join ∨ r.body.kind = .leave → r.requesters = .only .mc
  /-- R139, R141 -/
  attempt : ∀ a, s.lif.line = .sending a → ∃ r rest f, s.lif.queue = r :: rest ∧ a.bytes = encodeFrame f ∧
    f.sender = s.num ∧ f.body = r.body ∧ (a.senderByteEnded = true → r.inTransmission = true)
  /-- outside JOINED and LEAVING MC holds nothing, and behind the head stand at most a JOIN, a LEAVE and a SYNCREQ -/
  outside : s.mc.phase ≠ .joined → s.mc.phase ≠ .leaving →
    s.mc.held = [] ∧ ∀ r ∈ s.lif.queue.tail, r.body.kind ∈ ([.join, .leave, .syncreq] : List FrameKind)
  /-- R92, R149: a LEAVE carried out of an earlier phase is at the head -/
  carried : s.mc.phase = .offline ∨ s.mc.phase = .listen ∨ s.mc.phase = .syncing ∨ s.mc.phase = .fault ∨
    (s.mc.phase = .out ∧ s.mc.awaitLeave = false) → has .leave s.lif.queue.tail = false
  /-- R98 -/
  collecting : s.tu.joiner = .collecting → has .leave s.lif.queue = false
  /-- R71 -/
  count : s.mc.phase = .listen → s.mc.dupCount = 0
  /-- R66, R69, R71 -/
  joining : s.mc.phase = .founding ∨ s.mc.phase = .joining → has .join s.lif.queue = true →
    has .leave s.lif.queue.tail = false ∧ (0 < s.mc.dupCount → has .leave s.lif.queue = false)
  /-- R72 -/
  rejoin : s.mc.phase = .founding ∨ s.mc.phase = .joining → s.mc.rejoin.isSome = true →
    has .join s.lif.queue = false ∧ has .leave s.lif.queue = false
  /-- R86 -/
  joined : s.mc.phase = .joined → has .leave s.lif.queue = false ∧ ∀ b ∈ s.mc.held, b.kind ≠ .leave

/-! ## The laws of the levels (R163, R187) -/

/-- The applied levels keep within the ratings, the faults and the own holding, and so they do when what OQ carries is
applied: a LEAVE is requested only with every level at 0 (R86), and a RELEASE on the line binds BA (R171). -/
structure State.LevelLaw (s : State) : Prop where
  /-- R187 -/
  ratings : ∀ c : Channel, s.co.channels[c].applied ≤ rating s.inUse c ∧
    (s.co.channels[c].faulted = true → s.co.channels[c].applied = 0)
  /-- R90 -/
  own : s.mc.phase = .joined ∨ s.mc.phase = .leaving → s.ownEntry.state = .present
  /-- R163 -/
  within : s.mc.phase = .joined ∨ s.mc.phase = .leaving → appliedSum s ≤ s.ownEntry.holding
  /-- R163 -/
  elsewhere : s.mc.phase ≠ .joined → s.mc.phase ≠ .leaving → ∀ c : Channel, s.co.channels[c].applied = 0
  /-- R86, R174 -/
  leave : s.mc.phase = .leaving → has .leave s.lif.queue = true ∨ .leave ∈ s.mc.held → appliedSum s = 0
  /-- R171 -/
  release : ∀ a r rest x, s.lif.line = .sending a → s.lif.queue = r :: rest → r.body = .release x →
    s.mc.phase = .joined ∨ s.mc.phase = .leaving →
    appliedSum s ≤ s.ownEntry.holding - x ∧ (s.mc.phase = .joined → s.ba.bound = some x)

/-! ## The bounds of buffers, counts and values -/

/-- The ranges the spec gives the buffers and counts. -/
structure State.Bounded (s : State) : Prop where
  /-- R207 -/
  events : s.hp.events.length ≤ 16
  /-- R105 -/
  catchUp : s.tu.catchUp.length ≤ 24
  /-- R107, R108: the fifth piece is acted on at once -/
  pieces : s.tu.pieces.length ≤ 4
  /-- R112 -/
  attempt : s.tu.attempt ≤ 2
  /-- R103 -/
  nextPiece : ∀ n, s.tu.snapshot = some n → n.next ≤ 4
  /-- R134: the limit is acted on at once -/
  selfObjection : s.lif.selfObjection ≤ 7
  /-- R93 -/
  lineFaultOut : s.lif.lineFaultOut ≤ 3
  /-- R177 -/
  sample : ∀ x, s.tm.sample = some x → -40 ≤ x ∧ x ≤ 150
  /-- R182, R192 -/
  demands : ∀ c : Channel, s.co.channels[c].demand ≤ 1000
  /-- R204, R205 -/
  inUse : configValid s.inUse = true
  /-- R182, R183 -/
  counter : s.co.counter < s.inUse.period

/-! ## Timers -/

/-- A timer that runs out with the next microsecond. -/
def RunsOut (t : Option Timer) : Prop := ∃ m, t = some m ∧ m.length ≤ m.run + 1

/-- A timer one microsecond later. -/
def later (t : Option Timer) : Option Timer := t.map (fun m => { m with run := m.run + 1 })

/-- The own access slot begins at this instant, and the phase permits LIF to start the head of OQ (R135, R136). -/
def SlotBegins (s : State) : Prop :=
  ∃ clock r rest, s.lif.line = .slots clock ∧ s.lif.queue = r :: rest ∧ permits s.mc.phase r = true ∧
    clock = (80 / 2 ^ s.rate.val) * (1 + (s.num.val + 32 - s.lif.lastSender.val - 1) % 32)

/-- The command falls due in the microsecond that begins in this state. -/
def FallsDue (s : State) (c : Instr) : Prop :=
  match c with
  | .attemptStart => SlotBegins s
  | .listenTimerExpiry => RunsOut s.mc.listen
  | .presenceTimerExpiry => RunsOut s.mc.presence
  | .rejoinTimerExpiry => RunsOut s.mc.rejoin
  | .lastHeardTimerExpiry k => RunsOut s.mc.lastHeard[k]
  | .quarantineTimerExpiry k => RunsOut s.mc.quarantine[k]
  | .recallTimerExpiry k => ∃ m, s.watches[k] = .timing m ∧ m.length ≤ m.run + 1
  | .syncTimerExpiry => RunsOut s.tu.sync
  | .doubtTimerExpiry => RunsOut s.ac.timer
  | .releaseIdleTimerExpiry => RunsOut s.ba.idleTimer
  | .holdoffTimerExpiry => RunsOut s.ba.holdoff
  | .thermalSample reading => reading = Config.sensor s.free ∧ 8000 ≤ s.tm.clock + 1
  | .periodBoundary => s.inUse.period ≤ s.co.counter + 1
  | _ => False

/-! ## What an accepted frame of another station brings -/

/-- An event to be posted: kind, station, amount, cause. -/
abbrev Posted := EventKind × Nat × Nat × Nat

/-- The queue, marks and flags after these posts in order. -/
def Hp.postAll (hp : Hp) (es : List Posted) : Hp := es.foldl (fun hp e => hp.post e.1 e.2.1 e.2.2.1 e.2.2.2) hp

/-- The posts of an application at station `num`, its PHASE event apart: the budget events of R58 and R59 and the membership
events of R74 and R78. -/
def appliedEvents (num sender : Station) (before : Image) (eff : Effect) : List Posted :=
  let own := fun (k : EventKind) (amount cause : Nat) => ((k, num.val, amount, cause) : Posted)
  let when_ := fun (c : Bool) (p : Posted) => if c then [p] else []
  let served := fun (v : Served) =>
    (v.services.filter (fun a => a.station = num)).map (fun a => own .served a.units (if a.removed then 1 else 2))
  match eff with
  | .claimed o =>
    (if sender = num then
      when_ (0 < o.granted) (own .granted o.granted (if o.surplus = 0 then 1 else 2)) ++
        when_ (0 < o.queued) (own .waiting o.queued 0) ++
        when_ (0 < o.refused) (own .surplusRefused o.refused (match o.reason with
          | none => 0
          | some .alreadyWaiting => 1
          | some .debtor => 2
          | some .listNotEmpty => 3
          | some .poolShort => 4))
    else []) ++
      (o.assigned.filter (fun a => a.1 = num)).map
        (fun a => own .recalled a.2 (if before.entries[num].recallDue = 0 then 1 else 2))
  | .released o =>
    when_ (sender = num && 0 < o.released)
      (own .released o.released (if o.before = 0 then 0 else if o.after = 0 then 1 else 2)) ++ served o.served
  | .left state units v => served v ++ when_ (sender ≠ num) (.peerLeft, sender.val, units, entryStateCode state)
  | .freed target units v => served v ++ when_ (target ≠ num) (.peerFreed, target.val, units, 0)
  | .joined requested granted =>
    if sender = num then when_ (granted < requested) (own .floorTrimmed granted requested)
    else [(.peerJoined, sender.val, granted, 0)]
  | .lapsed target kept cause => when_ (target ≠ num) (.peerLapsed, target.val, kept, cause)
  | _ => []

/-- The phase and cause that end what the station was doing, when the application of a foreign frame ends it: founding
abandoned (R67), the own number on another station (R90), the own entry lapsed (R90, R91), divergence (R121, R123). -/
def foreignEnds (s : State) (f : Frame) (tb : Table) : Option (Phase × Cause) :=
  let lapsed : Bool :=
    match (tb.apply f.sender f.body).2 with
    | .lapsed target _ _ => target = s.num
    | _ => false
  let diverged : Bool := f.body.kind ≠ .syncreq ∧ (f.order ≠ tb.n ∨ f.digest ≠ tb.digest) ∧ s.ac.doubt ≠ none ∧
    s.ac.doubt ≠ some f.sender
  match s.mc.phase with
  | .founding => if f.body.kind ≠ .syncreq ∧ f.order ≠ tb.n then some (.syncing, .foundingAbandoned) else none
  | .joining => if diverged then some (.out, .diverged) else none
  | .joined | .leaving =>
    if f.sender = s.num then some (.fault, .duplicateNumber)
    else if lapsed then some (.out, .lapsed)
    else if diverged then some (.out, .diverged)
    else none
  | _ => none

/-- The key of a body: the kind and the target by which OQ merges (R145). -/
def Body.key (b : Body) : FrameKind × Option Nat := (b.kind, b.target)

/-- The block has no part in the request that could still bring it on the line, but for one that has begun (R141, R148). -/
def Request.WithdrawnBy (q : Request) (b : Block) : Prop :=
  q.inTransmission = true ∨ q.requesters.has b = false ∨ q.heldWithdrawals.has b = true

/-- No request of this kind and target holds a part of MC that could still be withdrawn, and MC holds none (R73, R148). -/
def McWithdrew (key : FrameKind × Option Nat) (t : State) : Prop :=
  (∀ b ∈ t.mc.held, b.key ≠ key) ∧
    ∀ q ∈ t.lif.queue, q.body.key = key → q.inTransmission = true ∨ q.requesters.mc = false

/-- The head has left OQ with the end of its frame, behind which `rest` stood (R133, R142, R143): the rotation goes on from
there, no request left or made since has begun, and where no phase was left but for JOINED the requests that no application
withdraws keep their order. -/
structure HeadEnded (rest : List Request) (s t : State) : Prop where
  line : t.lif.line = .slots 0
  begun : ∀ q ∈ t.lif.queue, q.inTransmission = false ∧ q.attempts = 0
  order : t.mc.phase = s.mc.phase ∨ t.mc.phase = .joined →
    ((rest.filter (fun q => q.body.kind ∈ ([.join, .leave, .syncreq, .claim, .release] : List FrameKind))).map
      (·.body)).Sublist (t.lif.queue.map (·.body))

/-- What the other blocks end on leaving JOINED for LEAVING (R57, R84, R104, R174): each part of a request not begun is
withdrawn, or held withdrawn in the first sender byte (R141): MC's LAPSE and FREE, the LAPSE of a watch in REQUESTED, BA's CLAIM
and RELEASE, TU's piece; BA's sides are NONE but for such a request or one in transmission, what was held is dropped, and
the requests they have no part in keep their order (R149). -/
structure PartsWithdrawn (s t : State) : Prop where
  mc : ∀ k : Station, ∀ q ∈ t.lif.queue,
    q.body.key = (.lapse, some k.val) ∨ q.body.key = (.free, some k.val) → q.WithdrawnBy .mc
  held : ∀ b ∈ t.mc.held, b.kind ≠ .lapse ∧ b.kind ≠ .free
  ca : ∀ k : Station, s.watches[k] = .requested → ∀ q ∈ t.lif.queue, q.body.key = (.lapse, some k.val) → q.WithdrawnBy .ca
  watches : ∀ k : Station, t.watches[k] = .idle
  claim : s.ba.claim = .queued → ∀ q ∈ t.lif.queue, q.body.kind = .claim → q.WithdrawnBy .ba
  release : s.ba.release = .queued → ∀ q ∈ t.lif.queue, q.body.kind = .release → q.WithdrawnBy .ba
  claimSide : t.ba.claim = .none ∨ ((s.ba.claim = .queued ∨ s.ba.claim = .sending) ∧ t.ba.claim = s.ba.claim ∧
    ∃ q ∈ t.lif.queue, q.body.kind = .claim ∧ q.requesters.ba = true)
  releaseSide : t.ba.release = .none ∨ ((s.ba.release = .queued ∨ s.ba.release = .sending) ∧
    t.ba.release = s.ba.release ∧ ∃ q ∈ t.lif.queue, q.body.kind = .release ∧ q.requesters.ba = true)
  tu : s.tu.snapshot.isSome = true → t.tu.pieceHeld = false ∧
    ∀ q ∈ t.lif.queue, q.body.kind = .snapshot → q.WithdrawnBy .tu
  order : ((s.lif.queue.filter (fun q =>
    q.inTransmission || q.body.kind ∉ ([.lapse, .free, .claim, .release, .snapshot] : List FrameKind))).map
      (·.body)).Sublist (t.lif.queue.map (·.body))

/-- The peer timers in JOINED after a frame of `sender` took the image from `before` to `after` (R79, R81 to R83): a
last-heard timer for each PRESENT peer and a quarantine timer for each LAPSED one, started where the peer has become so, the sender's
last-heard timer started again; and MC has withdrawn its LAPSE and FREE that the frame makes needless. -/
def PeersFollow (sender : Station) (before after : Image) (s t : State) : Prop :=
  ∀ k : Station,
    t.mc.lastHeard[k] = (if k = s.num ∨ after.entries[k].state ≠ .present then none
      else if sender = k ∨ before.entries[k].state ≠ .present then startMs (4 * s.inUse.tPresence)
      else s.mc.lastHeard[k]) ∧
    t.mc.quarantine[k] = (if k = s.num ∨ after.entries[k].state ≠ .lapsed then none
      else if before.entries[k].state ≠ .lapsed then startMs s.inUse.tQuar
      else s.mc.quarantine[k]) ∧
    (sender = k ∨ (before.entries[k].state = .present ∧ after.entries[k].state ≠ .present) →
      McWithdrew (.lapse, some k.val) t) ∧
    (before.entries[k].state = .lapsed → after.entries[k].state ≠ .lapsed → McWithdrew (.free, some k.val) t)

/-- An entry is a PRESENT debtor (R8). -/
def owes (e : Entry) : Bool := e.state = .present ∧ 0 < e.recallDue

/-- A watch of a peer in JOINED after a frame took its entry from `before` to `after` (R48 to R50, R53, R54); `sent` says
whether the frame was this station's own LAPSE of the entry. -/
def watchAfter (s : State) (sent : Bool) (before after : Entry) (w : Watch) : Watch :=
  match w with
  | .sending => if sent then .idle else .sending
  | .idle =>
    if owes after = true ∧ before.recallDue = 0 then .timing { length := s.inUse.tRecall * 1000, run := 0 } else .idle
  | w => if owes after then w else .idle

/-- The watches in JOINED after a frame took the image from `before` to `after`; the own entry is not watched (R47). A watch
that stays HELD may have made its request again at a shrink of OQ (R51), if its block was marked as waiting (R147); one that
ended in REQUESTED has withdrawn its part of the LAPSE (R53). -/
def WatchesFollow (sent : Station → Bool) (before after : Image) (s t : State) : Prop :=
  t.watches[s.num] = .idle ∧
    ∀ k : Station, k ≠ s.num →
      let w := watchAfter s (sent k) before.entries[k] after.entries[k] s.watches[k]
      (w ≠ .held ∨ s.lif.waiting.ca = false → t.watches[k] = w) ∧
      (w = .held → t.watches[k] = .held ∨ t.watches[k] = .requested ∨ t.watches[k] = .sending) ∧
      (s.watches[k] = .requested → w = .idle →
        ∀ q ∈ t.lif.queue, q.body.key = (.lapse, some k.val) → q.inTransmission = true ∨ q.requesters.ca = false)

/-! ## Effects that several commands share -/

/-- The applied and staged levels of all four channels are 0 (R188). -/
def State.LevelsAtZero (t : State) : Prop := ∀ c : Channel, t.co.channels[c].applied = 0 ∧ t.co.channels[c].staged = 0

/-- No timer of MC, no watch, no doubt, no transfer, no stop pending, no table (R16, R91, R94). -/
structure State.AtRest (t : State) : Prop where
  table : t.table = none
  listen : t.mc.listen = none
  presence : t.mc.presence = none
  lastHeard : ∀ k : Station, t.mc.lastHeard[k] = none
  quarantine : ∀ k : Station, t.mc.quarantine[k] = none
  watches : ∀ k : Station, t.watches[k] = .idle
  pendingStop : t.mc.pendingStop = none
  doubt : t.ac.doubt = none ∧ t.ac.timer = none
  transfer : t.tu.joiner = .idle ∧ t.tu.sync = none ∧ t.tu.catchUp = [] ∧ t.tu.pieces = [] ∧ t.tu.snapshot = none
  budget : t.ba.cap = 0 ∧ t.ba.idleTimer = none ∧ t.ba.idleMark = false ∧ t.ba.holdoff = none

/-- A request that an entry discards while its attempt is on the line: one not begun goes if its start is lost (R137, R144,
R149; log 16). -/
def discarded (r : Request) : Request :=
  { r with heldWithdrawals := if r.inTransmission then r.heldWithdrawals else r.requesters }

/-- The station has gone from `s` OUT (R63, R91, R92, R93, R139): PHASE posted, levels at zero, all work ended, the
discarded table's N and digest kept; OQ holds a LEAVE that no lost start takes, when a table was held and the cause is not
LAPSED, and at most the head it had, which stays when it was in transmission; the LEAVE's end is awaited, or the rejoin timer
started at once. -/
structure WentOut (c : Cause) (s t : State) : Prop where
  phase : t.mc.phase = .out ∧ t.mc.cause = c
  event : t.hp = s.hp.post .phase s.num.val 7 (causeCode c)
  levels : t.LevelsAtZero
  rest : t.AtRest
  kept : ∀ tb, s.table = some tb → t.lif.kept = some (tb.n, tb.digest)
  leave : s.table.isSome = true → c ≠ .lapsed → t.mc.awaitLeave = true ∧ t.mc.rejoin = none ∧
    ∃ q ∈ t.lif.queue, q.body.kind = .leave ∧ q.requesters.mc = true ∧ q.heldWithdrawals.mc = false
  alone : s.table = none ∨ c = .lapsed → t.mc.awaitLeave = false ∧ t.mc.rejoin = startMs (2 * s.inUse.tPresence)
  queue : ∀ r ∈ t.lif.queue, r.body.kind = .leave ∨ (s.lif.queue.head?.map discarded) = some r
  carried : ∀ q, s.lif.queue.head? = some q → q.inTransmission = true → t.lif.queue.head?.map (·.body) = some q.body
  selfObjection : t.lif.selfObjection = 0
  lineFaultOut : t.lif.lineFaultOut = if c = .lineFault then min 3 (s.lif.lineFaultOut + 1) else s.lif.lineFaultOut

/-- An attempt of this station is on the line. -/
def LineState.isSending (l : LineState) : Bool :=
  match l with
  | .sending _ => true
  | .noGrid => false
  | .slots _ => false
  | .receiving _ => false

/-- The commands of the host port (R156, R196). -/
def Instr.isHost (c : Instr) : Bool :=
  match c with
  | .chipSelectFall | .chipSelectRise | .unknownCommand _ | .hostByteComplete _ | .readStatus | .readEntry _
  | .readWaitList | .readChannel _ | .readConfig | .readFlags | .popEvent | .writeConfig _ | .setDemand _ _
  | .writeEnables _ | .clearFlags _ | .clearFault _ | .start | .stop | .reset => true
  | _ => false

/-- The bytes seen on the data output while these bytes are clocked in, one for each, and the state after them. -/
def clockOut (data : List Byte) (s : State) : List (Option Byte) × State :=
  match data with
  | [] => ([], s)
  | d :: ds =>
    match exec (.hostByteComplete d) s with
    | .next t => (t.hp.dataOut :: (clockOut ds t).1, (clockOut ds t).2)
    | _ => ([], s)

end Sys2Proof.Machine
end

