-- ==== Sys2Proof/Certificates/Slice0/Obligations.lean ====
section
/-! DEFINITION. What is claimed of the model, for the provers. A docstring names the rule of spec/ it formalises. -/

open Sys2Proof Sys2Proof.Machine

/-! ## Steps -/

/-- A step with a command waiting is exec of the command at the front, with the queue's rest. -/
def Obligations.StepRunsFrontCommand : Prop :=
  ∀ (c : Instr) (rest : List Instr) (s : State),
    step { s with pending := c :: rest } = exec c { s with pending := rest }

/-- The MODEL's choice (log 1): with no command waiting and no reset in force, a step is one microsecond. Every running
timer, every watch in TIMING and the sample clock advance by one; the period counter rises by one and returns to 0 where it
would reach the period in use (R183, log 48); the place in the rotation moves on, slot 31 followed by slot 0 (R135). The
queue then holds, each once, exactly the commands that fall due: each timer that reaches its length, each watch that runs
out, the boundary, the sample after 8 ms with its free reading (log 12), and ATTEMPT_START where the own slot begins with a
head that the phase permits (R136). Nothing else changes but the counter of the free values. -/
def Obligations.IdleStepIsOneMicrosecond : Prop :=
  ∀ (s : State), s.pending = [] → s.inReset = false →
    Completes (step s) fun t =>
      t.co = { s.co with counter := if s.inUse.period ≤ s.co.counter + 1 then 0 else s.co.counter + 1 } ∧
      t.tm = { s.tm with clock := s.tm.clock + 1 } ∧
      t.mc = { s.mc with
        listen := later s.mc.listen, presence := later s.mc.presence, rejoin := later s.mc.rejoin
        lastHeard := t.mc.lastHeard, quarantine := t.mc.quarantine } ∧
      (∀ k : Station, t.mc.lastHeard[k] = later s.mc.lastHeard[k] ∧ t.mc.quarantine[k] = later s.mc.quarantine[k]) ∧
      t.tu = { s.tu with sync := later s.tu.sync } ∧ t.ac = { s.ac with timer := later s.ac.timer } ∧
      t.ba = { s.ba with idleTimer := later s.ba.idleTimer, holdoff := later s.ba.holdoff } ∧
      (∀ k : Station, t.watches[k] =
        match s.watches[k] with
        | .timing m => .timing { m with run := m.run + 1 }
        | w => w) ∧
      t.lif = { s.lif with
        line := match s.lif.line with
          | .slots clock => .slots (if clock + 1 = 33 * (80 / 2 ^ s.rate.val) then 80 / 2 ^ s.rate.val else clock + 1)
          | l => l } ∧
      (∀ c : Instr, c ∈ t.pending ↔ FallsDue s c) ∧ t.pending.Nodup ∧
      { t with
        co := s.co, tm := s.tm, mc := s.mc, tu := s.tu, ac := s.ac, ba := s.ba, watches := s.watches, lif := s.lif,
        free := s.free, pending := s.pending } = s

/-- A command changes everything but the queue (the host's shape of exec), and the station number and the rate change by
RESET_END alone (R206). -/
def Obligations.QueueAndStrapsKept : Prop :=
  ∀ (c : Instr) (s : State),
    Completes (exec c s) fun t =>
      t.pending = s.pending ∧ ((∀ n r, c ≠ .resetEnd n r) → t.num = s.num ∧ t.rate = s.rate)

/-! ## Resets (sections 10.6 and 10.3) -/

/-- The state after power-on reset and RESETN (R26, R47, R95, R115, R116, R151, R176, R181, R195, R203, R218). -/
def Obligations.ResetStateHolds : Prop :=
  let s := State.reset
  s.table = none ∧ (∀ k : Station, s.watches[k] = .idle) ∧
    (s.mc.phase = .offline ∧ s.mc.cause = .reset ∧ s.mc.listen = none ∧ s.mc.presence = none ∧ s.mc.rejoin = none ∧
      (∀ k : Station, s.mc.lastHeard[k] = none ∧ s.mc.quarantine[k] = none) ∧ s.mc.dupCount = 0 ∧
      s.mc.pendingStop = none ∧ s.mc.held = []) ∧
    (s.tu.joiner = .idle ∧ s.tu.attempt = 0 ∧ s.tu.sync = none ∧ s.tu.catchUp = [] ∧ s.tu.pieces = [] ∧
      s.tu.anchor = none ∧ s.tu.responder = none ∧ s.tu.base = none ∧ s.tu.snapshot = none) ∧
    (s.ac.doubt = none ∧ s.ac.timer = none ∧ s.ac.last = none) ∧
    (s.lif.line = .noGrid ∧ s.lif.lastSender = 31 ∧ s.lif.selfObjection = 0 ∧ s.lif.lineFaultOut = 0 ∧
      s.lif.lastFailure = none ∧ s.lif.kept = none ∧ s.lif.queue = [] ∧ s.lif.waiting = .none) ∧
    (s.ba.demand = 0 ∧ s.ba.cap = 0 ∧ s.ba.claim = .none ∧ s.ba.release = .none ∧ s.ba.idleTimer = none ∧
      s.ba.idleMark = false ∧ s.ba.holdoff = none ∧ s.ba.bound = none) ∧
    (s.tm.state = .normal ∧ s.tm.sample = none) ∧
    (s.co.counter = 0 ∧ ∀ c : Channel, s.co.channels[c].demand = 0 ∧ s.co.channels[c].staged = 0 ∧
      s.co.channels[c].applied = 0) ∧
    (s.hp.port = .idle ∧ s.hp.events = [] ∧ s.hp.flags = 0 ∧ s.hp.enables = 0 ∧ s.attn = false) ∧
    s.hp.stored =
      { pool := 100, floor := 0, tPresence := 100, tQuar := 40, tRecall := 200, tIdle := 500, period := 1000,
        rating0 := 100, rating1 := 100, rating2 := 100, rating3 := 100, hot := 140, cool := 130, cutoff := 165 } ∧
    s.inUse = s.hp.stored

/-- POWER_ON_RESET and RESETN_LOW (R216): at once every output is low, ATTN deasserted, the data output not driven, the
line left, every block in its reset state; the pins stay as they are. While the reset is in force no block takes any event,
and chip select, clock and data input are not read: every command but the resets changes at most the pins that the model
follows (log 27). -/
def Obligations.ResetHoldsEveryBlock : Prop :=
  ∀ (c : Instr) (s : State),
    (c = .powerOnReset ∨ c = .resetnLow →
      Completes (exec c s) fun t =>
        t.inReset = true ∧ t.attn = false ∧ t.hp.dataOut = none ∧ t.hp.port = .idle ∧ t.hp.csLow = s.hp.csLow ∧
        (∀ ch : Channel, t.outHigh ch = false ∧ t.co.channels[ch].demand = 0 ∧ t.co.channels[ch].applied = 0 ∧
          t.co.channels[ch].staged = 0 ∧ t.co.channels[ch].input = s.co.channels[ch].input) ∧
        { t with
          num := State.reset.num, rate := State.reset.rate, inReset := false, co := State.reset.co,
          hp := State.reset.hp, free := State.reset.free, pending := State.reset.pending } = State.reset) ∧
    (s.inReset = true → c ≠ .powerOnReset → c ≠ .resetnLow → (∀ n r, c ≠ .resetEnd n r) →
      Completes (exec c s) fun t =>
        { t with co := s.co, hp := s.hp } = s ∧ { t.hp with csLow := s.hp.csLow } = s.hp ∧
        t.co.counter = s.co.counter ∧
        ∀ ch : Channel, { t.co.channels[ch] with input := s.co.channels[ch].input } = s.co.channels[ch])

/-- RESET_END (R206, R216): the straps are sampled, every block takes its state after power-on and RESETN, and a channel is
FAULTED as its fault input stands (R195). -/
def Obligations.ResetEndGivesResetState : Prop :=
  ∀ (n : Station) (r : Fin 4) (s : State), s.inReset = true →
    Completes (exec (.resetEnd n.val r.val) s) fun t =>
      t.num = n ∧ t.rate = r ∧ t.hp.csLow = s.hp.csLow ∧ t.hp.port = .idle ∧ t.co.counter = 0 ∧
      (∀ ch : Channel, t.co.channels[ch] =
        { demand := 0, staged := 0, applied := 0, faulted := s.co.channels[ch].input,
          input := s.co.channels[ch].input }) ∧
      { t with
        num := State.reset.num, rate := State.reset.rate, co := State.reset.co,
        hp := { t.hp with csLow := State.reset.hp.csLow }, free := State.reset.free,
        pending := State.reset.pending } = State.reset

/-- RESET (R217, R218): every block takes its reset state, the event queue, flags and enables are cleared; straps, stored
block and values in use are kept, and the port answers ACCEPTED in the same transaction. -/
def Obligations.HostResetKeepsConfiguration : Prop :=
  ∀ (s : State), portReady 0x6F [] s = true →
    Completes (exec .reset s) fun t =>
      t.num = s.num ∧ t.rate = s.rate ∧ t.inUse = s.inUse ∧ t.inReset = false ∧
      t.hp = { s.hp with port := .response [0x00], dataOut := some 0, events := [], flags := 0, enables := 0 } ∧
      t.attn = false ∧ t.co.counter = 0 ∧
      (∀ ch : Channel, t.co.channels[ch] =
        { demand := 0, staged := 0, applied := 0, faulted := s.co.channels[ch].input,
          input := s.co.channels[ch].input }) ∧
      { t with
        num := State.reset.num, rate := State.reset.rate, inUse := State.reset.inUse, co := State.reset.co,
        hp := State.reset.hp, free := State.reset.free, pending := State.reset.pending } = State.reset

/-! ## The host port (section 10.1) -/

/-- CHIP_SELECT_FALL and CHIP_SELECT_RISE (R196): a fall starts a transaction from IDLE only, and one of a chip select that
is low changes nothing (log 2); a rise ends one in any state and leaves the data output not driven. -/
def Obligations.ChipSelectFramesTransaction : Prop :=
  ∀ (s : State), s.inReset = false →
    (s.hp.csLow = false → s.hp.port = .idle →
      exec .chipSelectFall s = .next { s with hp := { s.hp with csLow := true, port := .command, dataOut := some 0 } }) ∧
    (s.hp.csLow = false → s.hp.port ≠ .idle →
      exec .chipSelectFall s = .next { s with hp := { s.hp with csLow := true } }) ∧
    (s.hp.csLow = true → exec .chipSelectFall s = .next s) ∧
    exec .chipSelectRise s = .next { s with hp := { s.hp with csLow := false, port := .idle, dataOut := none } }

/-- HOST_BYTE_COMPLETE of a command byte (R156, R196): a command without parameters is taken at its end, one with parameters
waits for them, and a byte that is no code is answered REFUSED_RANGE, as UNKNOWN_COMMAND is. -/
def Obligations.CommandByteTakesCommand : Prop :=
  ∀ (s : State), s.inReset = false → s.hp.port = .command →
    (∀ p ∈ ([(0x20, .readStatus), (0x22, .readWaitList), (0x24, .readConfig), (0x25, .readFlags), (0x26, .popEvent),
        (0x60, .start), (0x61, .stop), (0x6F, .reset)] : List (Byte × Instr)),
      exec (.hostByteComplete p.1) s = exec p.2 s) ∧
    (∀ code ∈ ([0x21, 0x23, 0x40, 0x41, 0x42, 0x43, 0x44] : List Byte),
      exec (.hostByteComplete code) s =
        .next { s with hp := { s.hp with port := .parameters code [], dataOut := some 0 } }) ∧
    (∀ b : Byte, b ∉ knownCodes →
      exec (.hostByteComplete b) s = exec (.unknownCommand b) s ∧
      exec (.unknownCommand b) s =
        .next { s with hp := { s.hp with port := .response [0x82], dataOut := some 0 } })

/-- HOST_BYTE_COMPLETE of a parameter byte (R156, R196): the last one takes the command with the numbers the bytes carry,
high byte first, WRITE CONFIG's 25 as the block of R157, and one before the last is kept. -/
def Obligations.ParameterByteTakesCommand : Prop :=
  ∀ (code b : Byte) (got : List Byte) (s : State), s.inReset = false → s.hp.port = .parameters code got →
    (code = 0x21 → got = [] → exec (.hostByteComplete b) s = exec (.readEntry b.toNat) s) ∧
    (code = 0x23 → got = [] → exec (.hostByteComplete b) s = exec (.readChannel b.toNat) s) ∧
    (code = 0x42 → got = [] → exec (.hostByteComplete b) s = exec (.writeEnables b) s) ∧
    (code = 0x43 → got = [] → exec (.hostByteComplete b) s = exec (.clearFlags b) s) ∧
    (code = 0x44 → got = [] → exec (.hostByteComplete b) s = exec (.clearFault b.toNat) s) ∧
    (code = 0x41 → ∀ c d : Byte, got = [c, d] →
      exec (.hostByteComplete b) s = exec (.setDemand c.toNat (d.toNat * 256 + b.toNat)) s) ∧
    (code = 0x40 → got.length = 24 → ∃ block : ConfigBlock, block.fits = true ∧ configBytes block = got ++ [b] ∧
      exec (.hostByteComplete b) s = exec (.writeConfig block) s) ∧
    ((code = 0x41 ∧ got.length < 2) ∨ (code = 0x40 ∧ got.length < 24) →
      exec (.hostByteComplete b) s =
        .next { s with hp := { s.hp with port := .parameters code (got ++ [b]), dataOut := some 0 } })

/-- HOST_BYTE_COMPLETE in RESPONSE and DRAIN (R196): the bytes of the result and response are clocked out one for each
byte, whatever is clocked in; after the last, DRAIN, and every further byte reads 0x00. -/
def Obligations.ResponseClockedOutThenZeros : Prop :=
  ∀ (bytes data : List Byte) (b : Byte) (s : State), s.inReset = false → s.hp.port = .response bytes → bytes ≠ [] →
    data.length = bytes.length →
      (clockOut data s).1 = bytes.map some ∧
      (clockOut data s).2 = { s with hp := { s.hp with port := .drain, dataOut := bytes.getLast? } } ∧
      exec (.hostByteComplete b) (clockOut data s).2 =
        .next { s with hp := { s.hp with port := .drain, dataOut := some 0 } }

/-! ## Reads (R199) -/

/-- READ_STATUS (R126, R150, R158, R199): ACCEPTED and the status record's 60 bytes, field by field at the offsets of R158,
and nothing else changes. The MODEL's choices: bytes with nothing to report (log 22), whole milliseconds (log 49), a grid
held from the first start bit on (log 50). -/
def Obligations.ReadStatusAnswersRecord : Prop :=
  ∀ (s : State),
    let at_ := fun (i n : Nat) => ((statusRecord s).drop i).take n
    let none_ := fun (o : Option Nat) =>
      match o with
      | some n => [loByte n]
      | none => [(0xFF : Byte)]
    (portReady 0x20 [] s = true →
      exec .readStatus s =
        .next { s with hp := { s.hp with port := .response (0x00 :: statusRecord s), dataOut := some 0 } }) ∧
    (statusRecord s).length = 60 ∧
    at_ 0 3 = [loByte s.num.val, loByte (phaseCode s.mc.phase), loByte (causeCode s.mc.cause)] ∧
    (∀ t, s.table = some t →
      at_ 3 1 = [1] ∧ at_ 4 4 = poolBytes t.image.pool ∧ at_ 8 2 = wordBytes t.n ∧ at_ 10 2 = wordBytes t.digest ∧
      at_ 12 2 = bytes2 t.image.freeUnits ∧ at_ 14 1 = [loByte t.image.wait.length]) ∧
    (s.table = none → at_ 3 12 = List.replicate 12 0) ∧
    at_ 15 4 = [loByte (joinerCode s.tu.joiner), loByte s.tu.attempt, loByte s.tu.catchUp.length,
      loByte s.tu.pieces.length] ∧
    at_ 19 1 = none_ (s.tu.responder.map (·.val)) ∧
    at_ 20 1 = [boolByte s.tu.snapshot.isSome] ∧ at_ 21 1 = none_ (s.tu.snapshot.map (·.joiner.val)) ∧
    (∀ n, s.tu.snapshot = some n → at_ 22 2 = wordBytes n.base) ∧ at_ 24 1 = none_ (s.tu.snapshot.map (·.next)) ∧
    at_ 25 1 = [if s.mc.phase = .joining ∨ s.mc.phase = .joined ∨ s.mc.phase = .leaving then
      (if s.ac.doubt = none then 1 else 2) else 0] ∧
    at_ 26 1 = none_ (s.ac.doubt.map (·.val)) ∧
    (∀ m, s.ac.timer = some m → at_ 27 2 = bytes2 (m.run / 1000)) ∧ (s.ac.timer = none → at_ 27 2 = [0, 0]) ∧
    (∀ d, s.ac.last = some d →
      at_ 29 12 = [1, loByte d.sender.val, kindCode d.kind] ++ wordBytes d.order ++ wordBytes d.digest ++
        wordBytes d.localN ++ wordBytes d.localDigest ++ [loByte (mismatchCode d.mismatch)]) ∧
    (s.ac.last = none → at_ 29 12 = List.replicate 12 0) ∧
    at_ 41 7 = [loByte s.rate.val, boolByte (s.lif.line != .noGrid), loByte s.lif.lastSender.val,
      loByte s.lif.selfObjection, loByte s.lif.lineFaultOut, loByte (failureCode s.lif.lastFailure),
      loByte s.lif.queue.length] ∧
    (∀ r rest, s.lif.queue = r :: rest →
      at_ 48 4 = [kindCode r.body.kind] ++ none_ r.body.target ++ [loByte r.attempts, boolByte r.inTransmission]) ∧
    (s.lif.queue = [] → at_ 48 2 = [0, 0xFF]) ∧
    at_ 52 2 = [boolByte s.lif.kept.isSome, loByte (thermalCode s.tm.state)] ∧
    at_ 54 1 = none_ (s.tm.sample.map (fun x => (x + 40).toNat)) ∧
    at_ 55 5 = bytes2 s.ba.demand ++ bytes2 s.ba.cap ++ [loByte s.hp.events.length]

/-- The reads that return a record (R28, R29, R157, R194, R199). READ_ENTRY and READ_WAIT_LIST: REFUSED_RANGE for an entry
above 31, EMPTY with no table; else the entry with its place in the wait list, or the whole wait list, each with the N and
digest of the table copied. READ_CHANNEL: the channel record, or REFUSED_RANGE for a channel above 3. READ_CONFIG: the stored
block. READ_FLAGS: the flags and the enables. -/
def Obligations.ReadsAnswerRecords : Prop :=
  ∀ (entry channel : Nat) (k : Station) (c : Channel) (t : Table) (s : State),
    (portReady 0x21 [loByte entry] s = true → 32 ≤ entry →
      exec (.readEntry entry) s =
        .next { s with hp := { s.hp with port := .response [0x82], dataOut := some 0 } }) ∧
    (portReady 0x21 [loByte entry] s = true → entry < 32 → s.table = none →
      exec (.readEntry entry) s =
        .next { s with hp := { s.hp with port := .response [0x90], dataOut := some 0 } }) ∧
    (portReady 0x21 [loByte entry] s = true → entry = k.val → s.table = some t →
      exec (.readEntry entry) s =
        .next { s with hp := { s.hp with
          port := .response ([0x00, loByte k.val, loByte (entryStateCode t.image.entries[k].state)] ++
            bytes2 t.image.entries[k].floor ++ bytes2 t.image.entries[k].holding ++
            bytes2 t.image.entries[k].recallDue ++
            [match t.image.wait.findIdx? (fun w => w.station == k) with
              | some i => loByte i
              | none => 0xFF] ++ wordBytes t.n ++ wordBytes t.digest)
          dataOut := some 0 } }) ∧
    (portReady 0x22 [] s = true → s.table = none →
      exec .readWaitList s = .next { s with hp := { s.hp with port := .response [0x90], dataOut := some 0 } }) ∧
    (portReady 0x22 [] s = true → s.table = some t →
      exec .readWaitList s =
        .next { s with hp := { s.hp with
          port := .response (0x00 :: (wordBytes t.n ++ wordBytes t.digest ++ [loByte t.image.wait.length] ++
            (t.image.wait.map (fun w => [loByte w.station.val] ++ bytes2 w.shortfall)).flatten))
          dataOut := some 0 } }) ∧
    (portReady 0x23 [loByte channel] s = true → 4 ≤ channel →
      exec (.readChannel channel) s =
        .next { s with hp := { s.hp with port := .response [0x82], dataOut := some 0 } }) ∧
    (portReady 0x23 [loByte channel] s = true → channel = c.val →
      exec (.readChannel channel) s =
        .next { s with hp := { s.hp with
          port := .response ([0x00, loByte c.val] ++
            bytes2 ([s.inUse.rating0, s.inUse.rating1, s.inUse.rating2, s.inUse.rating3].getD c.val 0) ++
            bytes2 s.co.channels[c].demand ++ bytes2 s.co.channels[c].staged ++ bytes2 s.co.channels[c].applied ++
            [if s.co.channels[c].faulted then 1 else 0, if s.co.channels[c].input then 1 else 0])
          dataOut := some 0 } }) ∧
    (portReady 0x24 [] s = true →
      exec .readConfig s =
        .next { s with hp := { s.hp with port := .response (0x00 :: configBytes s.hp.stored), dataOut := some 0 } }) ∧
    (portReady 0x25 [] s = true →
      exec .readFlags s =
        .next { s with hp := { s.hp with
          port := .response [0x00, s.hp.flags, s.hp.enables], dataOut := some 0 } })

/-- The event queue (R159, R207, R208, R209, R212). A post to fewer than 16 records joins the tail with its mark clear; a
post to 16 or more is dropped, the record at the tail is marked and QUEUE is set; both set the flag of the event's class.
POP_EVENT returns the record at the head, which leaves the queue, the others keeping their order and no flag being cleared;
an empty queue is answered EMPTY. The status record carries the number held at offset 59. -/
def Obligations.PopEventTakesHead : Prop :=
  ∀ (e : EventRecord) (rest : List EventRecord) (kind : EventKind) (station amount cause : Nat) (s : State),
    let flag : Byte :=
      match kind with
      | .granted | .surplusRefused | .waiting | .served | .released | .floorTrimmed => 0x01
      | .recalled => 0x02
      | .peerJoined | .peerLeft | .peerLapsed | .peerFreed => 0x04
      | .phase => 0x08
      | .frameAbandoned => 0x10
      | .thermal => 0x20
      | .channelFault => 0x40
    (s.hp.events.length < 16 →
      s.hp.post kind station amount cause =
        { s.hp with
          events := s.hp.events ++
            [{ kind := kind, station := station, amount := amount, cause := cause, lostAfter := false }]
          flags := s.hp.flags ||| flag }) ∧
    (16 ≤ s.hp.events.length → s.hp.events = rest ++ [e] →
      s.hp.post kind station amount cause =
        { s.hp with events := rest ++ [{ e with lostAfter := true }], flags := s.hp.flags ||| flag ||| 0x80 }) ∧
    (portReady 0x26 [] s = true →
      (s.hp.events = [] →
        exec .popEvent s = .next { s with hp := { s.hp with port := .response [0x90], dataOut := some 0 } }) ∧
      (s.hp.events = e :: rest →
        exec .popEvent s =
          .next { s with hp := { s.hp with
            port := .response ([0x00, eventCode e.kind, loByte e.station] ++ bytes2 e.amount ++ bytes2 e.cause ++
              [if e.lostAfter then 1 else 0])
            dataOut := some 0
            events := rest } }) ∧
      (statusRecord s)[59]? = some (loByte s.hp.events.length))

/-! ## Writes and actions (section 10.2) -/

/-- WRITE_CONFIG (R202): in OFFLINE and FAULT the whole stored block is replaced, whatever its values, and nothing is posted;
in any other phase it is refused with REFUSED_PHASE. No value in use changes. Besides it (as its own row or as its last byte)
only power-on and RESETN change the stored block, and these restore the defaults. -/
def Obligations.WriteConfigStoresBlock : Prop :=
  (∀ (block : ConfigBlock) (s : State), portReady 0x40 (configBytes block) s = true →
    (s.mc.phase = .offline ∨ s.mc.phase = .fault →
      exec (.writeConfig block) s =
        .next { s with hp := { s.hp with port := .response [0x00], dataOut := some 0, stored := block } }) ∧
    (s.mc.phase ≠ .offline → s.mc.phase ≠ .fault →
      exec (.writeConfig block) s =
        .next { s with hp := { s.hp with port := .response [0x81], dataOut := some 0 } })) ∧
    (∀ (c : Instr) (s t : State), exec c s = .next t → t.hp.stored ≠ s.hp.stored →
      c = .powerOnReset ∨ c = .resetnLow ∨ (∃ n r, c = .resetEnd n r) ∨ (∃ b, c = .writeConfig b) ∨
        ∃ d got, c = .hostByteComplete d ∧ s.hp.port = .parameters 0x40 got) ∧
    ∀ (s : State),
      (Completes (exec .powerOnReset s) fun t => t.hp.stored = ConfigBlock.defaults) ∧
      Completes (exec .resetnLow s) fun t => t.hp.stored = ConfigBlock.defaults

/-- The checks that START makes on the stored block (R204): all of them must hold, and a block that fails any is refused with
REFUSED_CONFIG. -/
def Obligations.StartChecksEveryField : Prop :=
  let ok := fun (c : ConfigBlock) =>
    (1 ≤ c.pool ∧ c.pool ≤ 4000) ∧ (c.floor ≤ 4000 ∧ c.floor ≤ c.pool) ∧
    (10 ≤ c.tPresence ∧ c.tPresence ≤ 1000 ∧ 10 ∣ c.tPresence) ∧ (5 ≤ c.tQuar ∧ c.tQuar ≤ 500) ∧
    (10 ≤ c.tRecall ∧ c.tRecall ≤ 2000) ∧ c.tIdle ≤ 5000 ∧
    (50 ≤ c.period ∧ c.period ≤ 10000 ∧ 50 ∣ c.period) ∧
    (1 ≤ c.rating0 ∧ c.rating0 ≤ 1000) ∧ (1 ≤ c.rating1 ∧ c.rating1 ≤ 1000) ∧
    (1 ≤ c.rating2 ∧ c.rating2 ≤ 1000) ∧ (1 ≤ c.rating3 ∧ c.rating3 ≤ 1000) ∧
    (c.hot ≤ 190 ∧ c.cool ≤ 190 ∧ c.cutoff ≤ 190) ∧ (c.cool < c.hot ∧ c.hot < c.cutoff)
  (∀ c : ConfigBlock, configValid c = true ↔ ok c) ∧
    ∀ s : State, portReady 0x60 [] s = true → s.mc.phase = .offline ∨ s.mc.phase = .fault → ¬ ok s.hp.stored →
      exec .start s = .next { s with hp := { s.hp with port := .response [0x83], dataOut := some 0 } }

/-- SET_DEMAND (R192, R160, R162): a channel above 3 or a demand above 1000 is refused and stores nothing; else the demand
is stored as written, and BA forms D, C and the staged levels again and makes its tests (their order: log 44); no applied
level changes. -/
def Obligations.SetDemandStoresAndRestages : Prop :=
  ∀ (channel demand : Nat) (c : Channel) (s : State),
    portReady 0x41 (loByte channel :: bytes2 demand) s = true →
      (4 ≤ channel ∨ 1000 < demand →
        exec (.setDemand channel demand) s =
          .next { s with hp := { s.hp with port := .response [0x82], dataOut := some 0 } }) ∧
      (channel = c.val → demand ≤ 1000 →
        Completes (exec (.setDemand channel demand) s) fun t =>
          t.co.channels[c].demand = demand ∧
          Rebudgeted
            { s with
              co := { s.co with channels := s.co.channels.set c { s.co.channels[c] with demand := demand } }
              hp := { s.hp with port := .response [0x00], dataOut := some 0 } } t)

/-- WRITE_ENABLES (R214) and CLEAR_FLAGS (R213): all eight enables are replaced; each flag whose mask bit is 1 is cleared
and no other; ATTN follows at once (R215). -/
def Obligations.FlagsAndEnablesWritten : Prop :=
  ∀ (v : Byte) (s : State),
    (portReady 0x42 [v] s = true →
      Completes (exec (.writeEnables v) s) fun t =>
        t = { s with hp := { s.hp with port := .response [0x00], dataOut := some 0, enables := v } } ∧
        (t.attn = true ↔ ∃ i : Fin 8, s.hp.flags.getLsbD i = true ∧ v.getLsbD i = true)) ∧
    (portReady 0x43 [v] s = true →
      Completes (exec (.clearFlags v) s) fun t =>
        { t with hp := { t.hp with flags := s.hp.flags } } =
          { s with hp := { s.hp with port := .response [0x00], dataOut := some 0 } } ∧
        (∀ i : Fin 8, t.hp.flags.getLsbD i = (s.hp.flags.getLsbD i && !v.getLsbD i)) ∧
        (t.attn = true ↔
          ∃ i : Fin 8, (s.hp.flags.getLsbD i = true ∧ v.getLsbD i = false) ∧ s.hp.enables.getLsbD i = true))

/-- CLEAR_FAULT (R191), by the FAULTED mark and the fault input as they stand. BA's tests after it come in the order of log
44. -/
def Obligations.ClearFaultActsByMarkAndInput : Prop :=
  ∀ (channel : Nat) (c : Channel) (s : State), portReady 0x44 [loByte channel] s = true →
    (4 ≤ channel →
      exec (.clearFault channel) s =
        .next { s with hp := { s.hp with port := .response [0x82], dataOut := some 0 } }) ∧
    (channel = c.val → s.co.channels[c].input = true →
      exec (.clearFault channel) s =
        .next { s with hp := { s.hp with port := .response [0x85], dataOut := some 0 } }) ∧
    (channel = c.val → s.co.channels[c].input = false → s.co.channels[c].faulted = false →
      exec (.clearFault channel) s =
        .next { s with hp := { s.hp with port := .response [0x00], dataOut := some 0 } }) ∧
    (channel = c.val → s.co.channels[c].input = false → s.co.channels[c].faulted = true →
      Completes (exec (.clearFault channel) s) fun t =>
        t.co.channels[c].faulted = false ∧
        Rebudgeted
          { s with
            co := { s.co with channels := s.co.channels.set c { s.co.channels[c] with faulted := false } }
            hp := { s.hp.post .channelFault s.num.val c.val 2 with port := .response [0x00], dataOut := some 0 } } t)

/-- START (R64, R93, R193, R200, R205): refused by phase, then by the stored block, then in CUT, and a refused START changes
nothing; else every block takes the stored block, the period counter restarts, and MC enters LISTEN with the listen timer
at five times the presence interval, posting PHASE. BA's tests come in the order of log 44. -/
def Obligations.StartEntersListen : Prop :=
  ∀ (s : State), portReady 0x60 [] s = true →
    (s.mc.phase ≠ .offline → s.mc.phase ≠ .fault →
      exec .start s = .next { s with hp := { s.hp with port := .response [0x81], dataOut := some 0 } }) ∧
    (s.mc.phase = .offline ∨ s.mc.phase = .fault → configValid s.hp.stored = false →
      exec .start s = .next { s with hp := { s.hp with port := .response [0x83], dataOut := some 0 } }) ∧
    (s.mc.phase = .offline ∨ s.mc.phase = .fault → configValid s.hp.stored = true → s.tm.state = .cut →
      exec .start s = .next { s with hp := { s.hp with port := .response [0x84], dataOut := some 0 } }) ∧
    (s.mc.phase = .offline ∨ s.mc.phase = .fault → configValid s.hp.stored = true → s.tm.state ≠ .cut →
      Completes (exec .start s) fun t =>
        Rebudgeted
          { s with
            inUse := s.hp.stored
            co := { s.co with counter := 0 }
            mc := { s.mc with
              phase := .listen, cause := .started, dupCount := 0, rejoin := none
              listen := some { length := 5 * s.hp.stored.tPresence * 1000, run := 0 } }
            lif := { s.lif with lineFaultOut := 0, selfObjection := 0, kept := none }
            hp := { s.hp.post .phase s.num.val 1 0x03 with port := .response [0x00], dataOut := some 0 } } t)

/-- STOP in JOINED, and in every phase but JOINED and JOINING (R85, R86, R201): refused with REFUSED_PHASE, or LEAVING with
cause STOPPED: C and every staged level 0, the peer timers, watches, the idle timer and the hold-off stopped, the snapshot
ended, the table and the applied levels kept, and a LEAVE requested at once when the applied levels are all 0. What MC, the
Claim Arithmetic, BA and TU had requested for a member's work and has not begun is withdrawn, and BA's sides go to NONE (R57,
R84, R104, R174). Orderly is the invariant of EveryStepKeepsQueuesInBounds. -/
def Obligations.StopInJoinedEntersLeaving : Prop :=
  ∀ (s : State), portReady 0x61 [] s = true →
    (s.mc.phase ≠ .joined → s.mc.phase ≠ .joining →
      exec .stop s = .next { s with hp := { s.hp with port := .response [0x81], dataOut := some 0 } }) ∧
    (s.mc.phase = .joined →
      Completes (exec .stop s) fun t =>
        t.mc.phase = .leaving ∧ t.mc.cause = .stopped ∧
        t.hp = { s.hp.post .phase s.num.val 6 0x01 with port := .response [0x00], dataOut := some 0 } ∧
        t.ba.cap = 0 ∧ t.ba.demand = demandTotal s ∧ t.ba.idleTimer = none ∧ t.ba.idleMark = false ∧
        t.ba.holdoff = none ∧
        (∀ c : Channel, t.co.channels[c] = { s.co.channels[c] with staged := 0 }) ∧ t.co.counter = s.co.counter ∧
        (∀ k : Station, t.mc.lastHeard[k] = none ∧ t.mc.quarantine[k] = none ∧ t.watches[k] = .idle) ∧
        (s.mc.presence.isSome = true → t.mc.presence = s.mc.presence) ∧ t.tu.snapshot = none ∧
        (appliedSum s = 0 → t.lif.queue.any (fun r => r.body.kind == .leave) = true ∨ .leave ∈ t.mc.held) ∧
        (s.lif.Orderly → PartsWithdrawn s t) ∧
        { t with
          mc := s.mc, hp := s.hp, ba := s.ba, co := s.co, lif := s.lif, tu := s.tu, watches := s.watches } = s ∧
        { t.lif with queue := s.lif.queue, waiting := s.lif.waiting } = s.lif)

/-- STOP in JOINING (R86, R87), by the own entry and the own JOIN. With the entry PRESENT: LEAVING, a JOIN or LEAVE not
begun withdrawn, and a LEAVE requested, since the levels are 0. Else with the own JOIN in transmission, from the report at
its first sender byte's end on (log 15): the stop is marked as pending, and one already pending keeps its cause (log 24).
Else: OFFLINE, and OQ holds at most an attempt on the line, whose request goes if a first start is then lost (log 16). -/
def Obligations.StopInJoiningActsByOwnJoin : Prop :=
  ∀ (s : State), portReady 0x61 [] s = true → s.mc.phase = .joining →
    let answered := { s with hp := { s.hp with port := .response [0x00], dataOut := some 0 } }
    let begun : Bool := s.lif.queue.any (fun r => r.body.kind == .join && r.inTransmission)
    let kept := s.lif.queue.filter (fun r => r.inTransmission || (r.body.kind != .join && r.body.kind != .leave))
    (s.ownEntry.state = .present →
      Completes (exec .stop s) fun t =>
        t.mc.phase = .leaving ∧ t.mc.cause = .stopped ∧ t.table = s.table ∧ t.mc.rejoin = none ∧
        t.mc.pendingStop = none ∧
        t.hp = { s.hp.post .phase s.num.val 6 0x01 with port := .response [0x00], dataOut := some 0 } ∧
        (appliedSum s = 0 → has .leave t.lif.queue = true ∨ .leave ∈ t.mc.held) ∧
        (s.lif.Orderly → s.RequestLaw → s.lif.line.isSending = false → s.lif.waiting = .none → appliedSum s = 0 →
          (∀ r ∈ s.lif.queue, r.inTransmission = true ∨ r.body.kind ∈ ([.join, .leave, .syncreq] : List FrameKind)) →
          t.lif.queue.map (fun r => (r.body, r.requesters, r.attempts, r.inTransmission)) =
            kept.map (fun r => (r.body, r.requesters, r.attempts, r.inTransmission)) ++
              if has .leave kept then [] else [(.leave, .only .mc, 0, false)])) ∧
    (s.ownEntry.state ≠ .present → begun = true → s.mc.pendingStop = none →
      exec .stop s = .next { answered with mc := { s.mc with pendingStop := some .stopped } }) ∧
    (s.ownEntry.state ≠ .present → begun = true → s.mc.pendingStop ≠ none → exec .stop s = .next answered) ∧
    (s.ownEntry.state ≠ .present → begun = false →
      Completes (exec .stop s) fun t =>
        t.mc.phase = .offline ∧ t.mc.cause = .stopped ∧ t.AtRest ∧ t.mc.rejoin = none ∧ t.lif.kept = none ∧
        t.mc.held = [] ∧
        t.lif.queue = (if s.lif.line.isSending then (s.lif.queue.take 1).map discarded else []) ∧
        t.hp = { s.hp.post .phase s.num.val 0 0x01 with port := .response [0x00], dataOut := some 0 })

/-- A host command never changes a table copy directly (R19): it leaves it as it is, or, for a STOP or a RESET, the copy is
discarded. -/
def Obligations.HostCommandsNeverChangeTable : Prop :=
  ∀ (c : Instr) (s : State), Instr.isHost c = true →
    Completes (exec c s) fun t =>
      (t.table = s.table ∨ t.table = none) ∧
      ((∀ d, c ≠ .hostByteComplete d) → c ≠ .stop → c ≠ .reset → t.table = s.table)

/-! ## The share line (chapter 6) -/

/-- GRID_ACQUIRED, FRAME_RECEPTION_START and TRUNCATED_FRAME (R127, R129, R131, R135, R137): slot 0 begins at the grid, and
a grid on a held grid changes nothing (logs 2, 57); a good sender byte sets L and a failed one leaves it, after a lost start
too; a truncated frame, with or without a FRAME_RECEPTION_START before it (log 28), is not objected to, counted or handed
on, and the rotation goes on from its end: the command stands, the MODEL's choice, at the end of the character time counted
as the verdict slot (log 52). -/
def Obligations.ReceiverFollowsLine : Prop :=
  ∀ (first : RxChar) (k : Station) (s : State), s.inReset = false →
    (s.lif.line = .noGrid →
      exec .gridAcquired s = .next { s with lif := { s.lif with line := .slots (80 / 2 ^ s.rate.val) } }) ∧
    (s.lif.line ≠ .noGrid → exec .gridAcquired s = .next s) ∧
    ((s.lif.line = .noGrid ∨ s.lif.line.isIdle = true ∨ s.lif.line = .receiving none) → first.stop = true →
      first.byte.toNat = k.val →
      exec (.frameReceptionStart first) s =
        .next { s with lif := { s.lif with line := .receiving (some first), lastSender := k } }) ∧
    ((s.lif.line = .noGrid ∨ s.lif.line.isIdle = true ∨ s.lif.line = .receiving none) →
      (first.stop = false ∨ 32 ≤ first.byte.toNat) →
      exec (.frameReceptionStart first) s =
        .next { s with lif := { s.lif with line := .receiving (some first) } }) ∧
    (s.lif.line.isSending = false → first.stop = true → first.byte.toNat = k.val →
      exec (.truncatedFrame first) s =
        .next { s with lif := { s.lif with line := .slots 0, objected := false, lastSender := k } }) ∧
    (s.lif.line.isSending = false → (first.stop = false ∨ 32 ≤ first.byte.toNat) →
      exec (.truncatedFrame first) s =
        .next { s with lif := { s.lif with line := .slots 0, objected := false } })

/-- ATTEMPT_START with a permitted request at the head and no zero amount (R136, R139, R140, R166, R171): the frame goes on
the line with the own number, the header words of R139 and the body as filled; a RELEASE binds BA to the holding less its
amount and BA stages again; the request keeps its place and count. With nothing to start, nothing changes. The command
stands for the own slot's beginning, at whatever place of the rotation the MODEL meets it (log 57). -/
def Obligations.AttemptStartFillsFrame : Prop :=
  ∀ (r : Request) (rest : List Request) (s : State), s.inReset = false → s.lif.line.isIdle = true →
    (s.lif.queue = [] ∨ s.mc.phase = .offline ∨ s.mc.phase = .listen ∨ s.mc.phase = .fault →
      exec .attemptStart s = .next s) ∧
    (s.lif.queue = r :: rest → s.mc.phase = .syncing → r.body.kind ≠ .syncreq → r.inTransmission = false →
      exec .attemptStart s = .next s) ∧
    (s.lif.queue = r :: rest → s.mc.phase = .out → r.body.kind ≠ .leave → r.inTransmission = false →
      exec .attemptStart s = .next s) ∧
    (s.lif.queue = r :: rest →
      (s.mc.phase = .founding ∨ s.mc.phase = .joining ∨ s.mc.phase = .joined ∨ s.mc.phase = .leaving ∨
        (s.mc.phase = .syncing ∧ (r.body.kind = .syncreq ∨ r.inTransmission = true)) ∨
        (s.mc.phase = .out ∧ (r.body.kind = .leave ∨ r.inTransmission = true))) →
      (r.body.kind = .claim → 0 < claimAmount s) → (r.body.kind = .release → 0 < releaseAmount s) →
      Completes (exec .attemptStart s) fun t =>
        ∃ f : Frame,
          t.lif = { s.lif with
            line := .sending { bytes := encodeFrame f, senderByteEnded := false }
            queue := { r with body := f.body } :: rest } ∧
          f.sender = s.num ∧
          (r.body.kind = .syncreq → f.order = 0 ∧ f.digest = 0) ∧
          (r.body.kind ≠ .syncreq → ∀ tb, s.table = some tb → f.order = tb.n ∧ f.digest = tb.digest) ∧
          (r.body.kind ≠ .syncreq → s.table = none → ∀ kept, s.lif.kept = some kept → (f.order, f.digest) = kept) ∧
          (match r.body with
            | .claim _ => f.body = .claim (claimAmount s)
            | .release _ => f.body = .release (releaseAmount s)
            | .lapse k cause =>
              f.body = .lapse k (if r.inTransmission then cause else if r.requesters.ca then 2 else 1)
            | b => f.body = b) ∧
          (r.body.kind ≠ .release → t.ba = s.ba ∧ t.co = s.co) ∧
          (r.body.kind = .release →
            t.ba = { s.ba with bound := some (releaseAmount s) } ∧ t.co.counter = s.co.counter ∧
            ∀ c : Channel, { t.co.channels[c] with staged := s.co.channels[c].staged } = s.co.channels[c] ∧
              t.co.channels[c].staged = min (target s c)
                (min s.ba.cap (s.ownEntry.holding - releaseAmount s) - stagedBefore t c)) ∧
          { t with lif := s.lif, ba := s.ba, co := s.co, free := s.free } = s)

/-- No CLAIM or RELEASE of amount 0 is ever sent (R140, R166, R171, R172). Whatever attempt begins puts on the line the
frame of the request at the head, of another body than those. In every phase that permits its attempt, a CLAIM or RELEASE at
the head for which BA gives 0 leaves OQ instead: its side goes to NONE and a RELEASE's bound is lifted, BA tests again, and
LIF takes the new head in the same slot (BA's tests in the order of log 44), so that the step goes on as an ATTEMPT_START of
that state does. In OUT, where BA gives 0, a request carried there ends so (R144). The command is taken at any place of the
rotation (log 57). The premises Orderly and BudgetLaw are the invariants of EveryStepKeepsQueuesInBounds and
EveryStepKeepsBudgetLaw. -/
def Obligations.ZeroAmountNeverSent : Prop :=
  ∀ (r : Request) (rest : List Request) (s : State), s.inReset = false → s.lif.line.isIdle = true →
    let permitted := s.mc.phase = .founding ∨ s.mc.phase = .joining ∨ s.mc.phase = .joined ∨ s.mc.phase = .leaving ∨
      ((s.mc.phase = .syncing ∨ s.mc.phase = .out) ∧ r.inTransmission = true)
    (Completes (exec .attemptStart s) fun t =>
      ∀ a, t.lif.line = .sending a → ∃ f q qs, a.bytes = encodeFrame f ∧ t.lif.queue = q :: qs ∧ q.body = f.body ∧
        f.body ≠ .claim 0 ∧ f.body ≠ .release 0) ∧
    (s.lif.Orderly → s.BudgetLaw → s.lif.queue = r :: rest → permitted → r.body.kind = .claim → claimAmount s = 0 →
      ∃ u, exec .attemptStart s = exec .attemptStart u ∧ rest.map (·.body) <+: u.lif.queue.map (·.body) ∧
        u.lif.line = s.lif.line ∧
        u.ba.claim = .none ∧
        (s.lif.waiting = .none → rest.length < 6 →
          Rebudgeted { s with lif := { s.lif with queue := rest }, ba := { s.ba with claim := .none } } u)) ∧
    (s.lif.Orderly → s.BudgetLaw → s.lif.queue = r :: rest → permitted → r.body.kind = .release → releaseAmount s = 0 →
      ∃ u, exec .attemptStart s = exec .attemptStart u ∧ rest.map (·.body) <+: u.lif.queue.map (·.body) ∧
        u.lif.line = s.lif.line ∧
        u.ba.bound = none ∧ (u.ba.release ≠ .none → releaseWanted u = true) ∧
        (s.lif.waiting = .none → rest.length < 6 →
          Rebudgeted
            { s with lif := { s.lif with queue := rest }, ba := { s.ba with release := .none, bound := none } } u)) ∧
    (s.mc.phase = .out → s.lif.queue = [r] → r.inTransmission = true → s.lif.waiting = .none → r.body.kind = .claim →
      Completes (exec .attemptStart s) fun t => t.lif = { s.lif with queue := [] } ∧ t.ba.claim = .none) ∧
    (s.mc.phase = .out → s.lif.queue = [r] → r.inTransmission = true → s.lif.waiting = .none →
      r.body.kind = .release →
      Completes (exec .attemptStart s) fun t =>
        t.lif = { s.lif with queue := [] } ∧ t.ba.release = .none ∧ t.ba.bound = none)

/-- LOST_START and SENDER_BYTE_END (R137, R141): a lost start counts no attempt and leaves the request as it was, but for
the withdrawals held meanwhile, and the discard of an entry to OUT, FAULT or OFFLINE (log 16), which then take effect: the
request goes with its last requester, whatever the phase; and every request goes in FAULT and OFFLINE (R144, log 16), where
one in transmission stays in every other phase, in LISTEN too (log 51); a first character that reads dominant where the
station sent recessive, its stop bit included, shows a lost start (log 5); at the end of a sender byte not lost, L is the
own number and the request is in transmission, its requesters told: BA's side and the recall watch go to SENDING (R54, R166,
R171). -/
def Obligations.SenderByteLostOrEnded : Prop :=
  ∀ (a : Attempt) (r : Request) (rest : List Request) (k : Station) (cause : Nat) (first : RxChar) (chars : List RxChar)
    (objected : Bool) (s : State), s.inReset = false →
    s.lif.line = .sending a → a.senderByteEnded = false → s.lif.queue = r :: rest →
    (s.mc.phase ≠ .fault → s.mc.phase ≠ .offline → r.inTransmission = true →
      exec .lostStart s = .next { s with lif := { s.lif with line := .receiving none } }) ∧
    (s.mc.phase ≠ .fault → s.mc.phase ≠ .offline → r.heldWithdrawals = .none →
      r.requesters.isEmpty = false →
      exec .lostStart s = .next { s with lif := { s.lif with line := .receiving none } }) ∧
    (s.mc.phase ≠ .fault → s.mc.phase ≠ .offline → r.inTransmission = false →
      (r.requesters.diff r.heldWithdrawals).isEmpty = false →
      exec .lostStart s =
        .next { s with lif := { s.lif with
          line := .receiving none
          queue := { r with
            requesters := r.requesters.diff r.heldWithdrawals, heldWithdrawals := .none } :: rest } }) ∧
    (s.mc.phase = .fault ∨ s.mc.phase = .offline ∨
        (r.inTransmission = false ∧ (r.requesters.diff r.heldWithdrawals).isEmpty = true) →
      Completes (exec .lostStart s) fun t =>
        t.lif.line = .receiving none ∧ t.mc.phase = s.mc.phase ∧ t.hp = s.hp ∧
        (rest.map (·.body)) <+: t.lif.queue.map (·.body) ∧
        (s.lif.Orderly →
          (∀ q ∈ t.lif.queue, q.inTransmission = false) ∧
          (s.lif.waiting = .none → r.body.kind ∉ ([.claim, .release, .leave] : List FrameKind) →
            ∀ q ∈ t.lif.queue, q.body.key ≠ r.body.key))) ∧
    ((first.stop = false ∨ ∃ i : Fin 8, (a.bytes.headD 0).getLsbD i = true ∧ first.byte.getLsbD i = false) →
      Completes (exec .lostStart s) fun t =>
        exec (.frameReceived (first :: chars) objected) s = exec (.frameReceived (first :: chars) objected) t) ∧
    (Completes (exec .senderByteEnd s) fun t =>
      t.lif =
        { s.lif with
          line := .sending { a with senderByteEnded := true }
          lastSender := s.num
          queue := (if r.inTransmission then r
            else { r with inTransmission := true, heldWithdrawals := .none }) :: rest } ∧
      { t with lif := s.lif, ba := s.ba, watches := s.watches } = s ∧
      t.ba = (if r.inTransmission = false ∧ r.requesters.ba = true ∧ r.body.kind = .claim then
          { s.ba with claim := .sending }
        else if r.inTransmission = false ∧ r.requesters.ba = true ∧ r.body.kind = .release then
          { s.ba with release := .sending }
        else s.ba) ∧
      (r.inTransmission = false → r.requesters.ca = true → r.body = .lapse k.val cause →
        s.watches[k] = .requested → t.watches = s.watches.set k .sending) ∧
      ((r.body.kind ≠ .lapse ∨ r.requesters.ca = false ∨ r.inTransmission = true) → t.watches = s.watches))

/-- FRAME_RECEIVED of a frame of another station that is not accepted here (R129 to R134): lost by its sender byte,
truncated, voided by another station, or failed: then recorded, objected to in the phases that object, and counted in the
phases that count; the eighth failure in a row puts the station OUT with cause LINE_FAULT (R91; the frame's end itself, log
6). What the checks find after a good sender byte (R130, R131, R152; in the order of log 14): FRAMING in the characters of
the kind, in a frame short of them too; else truncation; else CHECK; else LENGTH; and without a kind KIND, or FRAMING in the
kind byte. -/
def Obligations.FrameNotAcceptedHere : Prop :=
  ∀ (chars : List RxChar) (objected : Bool) (k : Station) (failure : FailKind) (f : Frame) (first second : RxChar)
    (rest : List RxChar) (kind : FrameKind) (s : State), s.inReset = false → s.lif.line.isSending = false →
    let all := first :: second :: rest
    let own := all.take (frameLength kind)
    let content := (own.take (frameLength kind - 2)).map (·.byte)
    let check := (own.drop (frameLength kind - 2)).map (·.byte)
    (goodSender first = some k → kindOfCode second.byte = none →
      receive all = .failed (if second.stop then .kind else .framing)) ∧
    (goodSender first = some k → kindOfCode second.byte = some kind →
      ((∃ c ∈ own, c.stop = false) → receive all = .failed .framing) ∧
      ((∀ c ∈ own, c.stop = true) →
        (all.length < frameLength kind → receive all = .truncated) ∧
        (frameLength kind ≤ all.length → check ≠ wordBytes (crc16 content) → receive all = .failed .check) ∧
        (frameLength kind < all.length → check = wordBytes (crc16 content) → receive all = .failed .length))) ∧
    (receive chars = .senderFailed →
      exec (.frameReceived chars objected) s =
        .next { s with lif := { s.lif with line := .slots 0, objected := false } }) ∧
    (receive chars = .truncated → chars.head?.bind goodSender = some k →
      exec (.frameReceived chars objected) s =
        .next { s with lif := { s.lif with line := .slots 0, objected := false, lastSender := k } }) ∧
    (receive chars = .passed f → objected = true →
      exec (.frameReceived chars objected) s =
        .next { s with lif := { s.lif with line := .slots 0, objected := false, lastSender := f.sender } }) ∧
    (receive chars = .failed failure → chars.head?.bind goodSender = some k →
      s.mc.phase = .offline ∨ s.mc.phase = .out ∨ s.mc.phase = .fault →
      exec (.frameReceived chars objected) s =
        .next { s with lif := { s.lif with
          line := .slots 0, objected := false, lastSender := k, lastFailure := some failure } }) ∧
    (receive chars = .failed failure → chars.head?.bind goodSender = some k → s.lif.selfObjection < 7 →
      s.mc.phase ≠ .offline → s.mc.phase ≠ .out → s.mc.phase ≠ .fault →
      exec (.frameReceived chars objected) s =
        .next { s with lif := { s.lif with
          line := .slots 0, objected := s.mc.phase != .listen, lastSender := k, lastFailure := some failure
          selfObjection := s.lif.selfObjection + 1 } }) ∧
    (receive chars = .failed failure → chars.head?.bind goodSender = some k → s.lif.selfObjection = 7 →
      s.mc.phase ≠ .offline → s.mc.phase ≠ .out → s.mc.phase ≠ .fault →
      Completes (exec (.frameReceived chars objected) s) fun t =>
        WentOut .lineFault s t ∧ t.lif.line = .slots 0 ∧ t.lif.objected = (s.mc.phase != .listen) ∧
        t.lif.lastSender = k ∧ t.lif.lastFailure = some failure)

/-- FRAME_RECEIVED of a frame of another station accepted here (R21, R58, R59, R65, R67, R74, R78, R90, R91, R123, R133,
R134): the self-objection count is cleared. A station with a table has applied it, with the events of the application (of
the two blocks' posts those of the Claim Arithmetic first, log 9; by the number in the frame, log 20), and keeps phase and
table but where founding is abandoned, the frame carries the own number in JOINED or LEAVING, the own entry is lapsed, or
divergence is concluded: then the table goes, and PHASE follows; where founding is abandoned MC withdraws its JOIN and LEAVE
not begun and TU asks for a table (R67, R96). A FREE of the own entry while the rejoin timer runs (in FOUNDING log 54) has
the JOIN requested at once (R72). In JOINED BA makes its tests after the application: a CLAIM where Q is above 0, a RELEASE
where one is wanted, at a recall too (R165, R170, R173; their order: log 44). Orderly is the invariant of
EveryStepKeepsQueuesInBounds. In LISTEN the station goes to SYNCING and asks for a table; in OFFLINE, OUT and FAULT nothing
more comes of it. -/
def Obligations.AcceptedFrameHandedOn : Prop :=
  ∀ (chars : List RxChar) (f : Frame) (tb : Table) (s : State), s.inReset = false → s.lif.line.isSending = false →
    receive chars = .passed f →
    (s.table = none → s.mc.phase = .offline ∨ s.mc.phase = .out ∨ s.mc.phase = .fault →
      exec (.frameReceived chars false) s =
        .next { s with lif := { s.lif with
          line := .slots 0, objected := false, lastSender := f.sender, selfObjection := 0 } }) ∧
    (s.table = none → s.mc.phase = .listen →
      Completes (exec (.frameReceived chars false) s) fun t =>
        t.mc = { s.mc with phase := .syncing, cause := .heard, listen := none, rejoin := none } ∧
        t.tu.joiner = .asking ∧ t.tu.attempt = 0 ∧ t.tu.catchUp = [] ∧ t.tu.pieces = [] ∧ t.tu.sync = none ∧
        t.hp = s.hp.post .phase s.num.val 3 0x06 ∧
        t.lif.queue = ({ s.lif with
          line := .slots 0, objected := false, lastSender := f.sender, selfObjection := 0 }.request
            (.syncreq 0 s.inUse.pool) .tu).1.queue ∧
        { t with mc := s.mc, tu := s.tu, hp := s.hp, lif := s.lif } = s) ∧
    (s.table = some tb →
      Completes (exec (.frameReceived chars false) s) fun t =>
        let posted := s.hp.postAll (appliedEvents s.num f.sender tb.image (tb.apply f.sender f.body).2)
        t.lif.lastSender = f.sender ∧ t.lif.selfObjection = 0 ∧ t.lif.line = .slots 0 ∧
        (foreignEnds s f tb = none →
          t.table = some (tb.apply f.sender f.body).1 ∧ t.mc.phase = s.mc.phase ∧ t.mc.cause = s.mc.cause ∧
          t.hp = posted) ∧
        (∀ e, foreignEnds s f tb = some e →
          t.table = none ∧ t.mc.phase = e.1 ∧ t.mc.cause = e.2 ∧
          t.hp = posted.post .phase s.num.val (phaseCode e.1) (causeCode e.2) ∧
          (e.1 = .syncing →
            t.tu.joiner = .asking ∧ t.tu.attempt = 0 ∧ t.tu.sync = none ∧ t.tu.catchUp = [] ∧ t.tu.pieces = [] ∧
            t.mc.rejoin = none ∧ t.mc.held = [] ∧ t.lif.kept = some (tb.n + 1, (tb.apply f.sender f.body).1.digest) ∧
            (has .syncreq t.lif.queue = true ∨ t.tu.syncreqHeld = true) ∧
            (s.lif.Orderly → McWithdrew (.join, none) t ∧ McWithdrew (.leave, none) t))) ∧
        (∀ units served, (tb.apply f.sender f.body).2 = .freed s.num units served →
          s.mc.phase = .founding ∨ s.mc.phase = .joining → foreignEnds s f tb = none → s.mc.rejoin.isSome = true →
          t.mc.rejoin = none ∧ (has .join t.lif.queue = true ∨ t.mc.held.any (fun b => b.kind == .join) = true)) ∧
        (s.mc.phase = .joined → foreignEnds s f tb = none → s.lif.Orderly → s.lif.waiting = .none →
          s.lif.queue.length < 6 → (s.ba.claim = .none → has .claim s.lif.queue = false) →
          (s.ba.release = .none → has .release s.lif.queue = false) → BudgetTested s t) ∧
        (tb.apply f.sender f.body).1.n = tb.n + 1 ∧
        (tb.apply f.sender f.body).1.digest = (tb.apply f.sender f.body).1.image.crc)

/-- FRAME_RECEIVED at the end of an own attempt that is void (R132, R138, R143, R144): objected to by another station, the
attempt count rises and the request stays; with its read-back failed, the station objects to its own frame and the failure
is counted (not in OUT) with the last failure kind unchanged (log 37), where further characters follow the own frame too
(log 58); in FAULT and OFFLINE the request is removed without a
retry and no event is posted. In LISTEN an attempt that an entry to OFFLINE or FAULT found on the line is counted and its
request kept, the MODEL's choice (log 51). The eighth void end is that of REQUEST_ABANDONED itself (log 6); with the
read-back failed the failure is counted after it, by the phase it leaves, and the eighth in a row puts the station OUT,
after the abandonment where one frame brings both (log 7). -/
def Obligations.VoidAttemptCounted : Prop :=
  ∀ (a : Attempt) (r : Request) (rest : List Request) (chars : List RxChar) (objected : Bool) (s : State),
    s.inReset = false → s.lif.line = .sending a → a.senderByteEnded = true → s.lif.queue = r :: rest →
    chars ≠ [] → a.bytes ≠ [] →
    (s.mc.phase ≠ .fault → s.mc.phase ≠ .offline → r.attempts < 7 →
      exec (.frameReceived (cleanChars a.bytes) true) s =
        .next { s with lif := { s.lif with
          line := .slots 0, objected := false, queue := { r with attempts := r.attempts + 1 } :: rest } }) ∧
    (chars ≠ cleanChars a.bytes → s.mc.phase ≠ .fault → s.mc.phase ≠ .offline → s.mc.phase ≠ .out →
      r.attempts < 7 → s.lif.selfObjection < 7 →
      exec (.frameReceived chars objected) s =
        .next { s with lif := { s.lif with
          line := .slots 0, objected := true, queue := { r with attempts := r.attempts + 1 } :: rest,
          selfObjection := s.lif.selfObjection + 1 } }) ∧
    (chars ≠ cleanChars a.bytes → s.mc.phase = .out → r.attempts < 7 →
      exec (.frameReceived chars objected) s =
        .next { s with lif := { s.lif with
          line := .slots 0, objected := true, queue := { r with attempts := r.attempts + 1 } :: rest } }) ∧
    (s.mc.phase = .fault ∨ s.mc.phase = .offline → s.lif.waiting = .none →
      Completes (exec (.frameReceived (cleanChars a.bytes) true) s) fun t =>
        t.lif = { s.lif with line := .slots 0, objected := false, queue := rest } ∧ t.hp = s.hp ∧ t.mc = s.mc) ∧
    (s.mc.phase ≠ .fault → s.mc.phase ≠ .offline → r.attempts = 7 →
      Completes (exec .requestAbandoned s) fun u =>
        let after := { u with lif := { u.lif with objected := true } }
        exec (.frameReceived (cleanChars a.bytes) true) s = .next u ∧
        (u.mc.phase = s.mc.phase → u.lif.selfObjection = s.lif.selfObjection) ∧
        (chars ≠ cleanChars a.bytes →
          (u.mc.phase = .offline ∨ u.mc.phase = .out ∨ u.mc.phase = .fault →
            exec (.frameReceived chars objected) s = .next after) ∧
          (u.mc.phase ≠ .offline → u.mc.phase ≠ .out → u.mc.phase ≠ .fault →
            (u.lif.selfObjection < 7 →
              exec (.frameReceived chars objected) s =
                .next { after with lif := { after.lif with selfObjection := u.lif.selfObjection + 1 } }) ∧
            (u.lif.selfObjection = 7 →
              Completes (exec (.frameReceived chars objected) s) fun t =>
                WentOut .lineFault after t ∧ t.lif.line = .slots 0 ∧ t.lif.objected = true)))) ∧
    (chars ≠ cleanChars a.bytes → s.mc.phase ≠ .fault → s.mc.phase ≠ .offline → s.mc.phase ≠ .out →
      r.attempts < 7 → s.lif.selfObjection = 7 →
      Completes (exec (.frameReceived chars objected) s) fun t =>
        WentOut .lineFault
          { s with lif := { s.lif with queue := { r with attempts := r.attempts + 1 } :: rest } } t ∧
        t.lif.line = .slots 0 ∧ t.lif.objected = true)

/-- FRAME_RECEIVED at the end of an own attempt that is accepted (R142): the request leaves OQ, in every phase, the others
keep their order, and the self-objection count is cleared (PhaseLaw is the invariant of EveryStepKeepsPhaseLaw). Without a
table the requester learns no more: the LEAVE sent from OUT starts the rejoin timer (R92), a stop pending on a JOIN is
settled in OFFLINE (log 31). With one the frame is applied. In FOUNDING and JOINING the JOIN accepted brings JOINED with its
timers, watches and cleared counts (R48, R66, R70, R74, R79, R175); refused, it brings FAULT, the LEAVE of R71 or the wait
of R72, each with its PHASE event, the second DUPLICATE two of them (log 39; in FOUNDING log 54); a stop pending takes the
place of both (R88); and the own LEAVE has the JOIN requested again (R71, R72). In LEAVING the LEAVE ends in OFFLINE (R86,
R90), and a refused JOIN brings PHASE alone or, refused POOL_MISMATCH, nothing (R63, R87, log 41). In JOINED and LEAVING
every other frame restarts the presence timer and has a PRESENT not begun withdrawn (R80), with its events (R58, R59, R78;
order of posts: log 9): a CLAIM or RELEASE ends its side and the bound (R167, R172), BA then making its tests in JOINED
(R165, R170; order: log 44), a LAPSE its watch (R54), the peer timers and watches follow (R81 to R83), and a piece is
followed by the next one or frees the buffer (R103). -/
def Obligations.AcceptedAttemptEndsRequest : Prop :=
  ∀ (a : Attempt) (r : Request) (rest : List Request) (f : Frame) (tb : Table) (floor pool interval granted : Nat)
    (refusal : JoinRefusal) (stop : Cause) (n : Snapshot) (data : List Byte) (s : State), s.inReset = false →
    s.lif.line = .sending a → a.senderByteEnded = true → s.lif.queue = r :: rest →
    receive (cleanChars a.bytes) = .passed f →
    let ends := fun (p : State → Prop) => Completes (exec (.frameReceived (cleanChars a.bytes) false) s) p
    let after := (tb.apply f.sender f.body).1
    let effect := (tb.apply f.sender f.body).2
    let posted := s.hp.postAll (appliedEvents s.num s.num tb.image effect)
    let post := fun (p : Phase) (c : Cause) (hp : Hp) => hp.post .phase s.num.val (phaseCode p) (causeCode c)
    let member := s.mc.phase = .joined ∨ s.mc.phase = .leaving
    let joiner := s.mc.phase = .joining ∨ (s.mc.phase = .founding ∧ f.order = tb.n)
    (ends fun t =>
      t.lif.selfObjection = 0 ∧ t.lif.line = .slots 0 ∧ t.lif.objected = false ∧
      (s.lif.Orderly → s.PhaseLaw → HeadEnded rest s t)) ∧
    (s.table = none → s.mc.phase = .offline ∨ s.mc.phase = .out ∨ s.mc.phase = .fault → s.lif.waiting = .none →
      s.mc.pendingStop = none →
      ends fun t =>
        t.lif = { s.lif with line := .slots 0, objected := false, queue := rest, selfObjection := 0 } ∧
        t.hp = s.hp ∧ t.mc.phase = s.mc.phase) ∧
    (s.table = none → s.mc.phase = .out → f.body = .leave → s.mc.awaitLeave = true → s.lif.waiting = .none →
      exec (.frameReceived (cleanChars a.bytes) false) s =
        .next { s with
          lif := { s.lif with line := .slots 0, objected := false, queue := rest, selfObjection := 0 }
          mc := { s.mc with
            awaitLeave := false, rejoin := some { length := 2 * s.inUse.tPresence * 1000, run := 0 } } }) ∧
    (s.table = none → s.mc.phase = .syncing → s.tu.joiner = .asking → f.body.kind = .join → s.mc.pendingStop = some stop →
      ends fun t => t.mc.phase = .offline ∧ t.mc.cause = stop ∧ t.lif.queue = [] ∧ t.hp = post .offline stop s.hp) ∧
    (s.table = some tb → joiner → f.sender = s.num → f.body = .join floor pool interval →
      effect = .joined floor granted →
      (s.mc.pendingStop = none →
        ends fun t =>
          t.mc.phase = .joined ∧ t.mc.cause = .accepted ∧ t.table = some after ∧
          t.mc.presence = startMs s.inUse.tPresence ∧ t.mc.rejoin = none ∧ t.mc.dupCount = 0 ∧ t.lif.lineFaultOut = 0 ∧
          t.ba.cap = 0 ∧ t.ba.boundarySeen = false ∧ t.hp = post .joined .accepted posted ∧
          (s.lif.Orderly → s.lif.waiting = .none → r.body = f.body → has .join t.lif.queue = false) ∧
          ∀ k : Station,
            t.mc.lastHeard[k] =
              (if k ≠ s.num ∧ after.image.entries[k].state = .present then startMs (4 * s.inUse.tPresence) else none) ∧
            t.mc.quarantine[k] =
              (if k ≠ s.num ∧ after.image.entries[k].state = .lapsed then startMs s.inUse.tQuar else none) ∧
            t.watches[k] =
              (if k ≠ s.num ∧ owes after.image.entries[k] = true then
                .timing { length := s.inUse.tRecall * 1000, run := 0 } else .idle)) ∧
      (s.mc.pendingStop = some stop →
        ends fun t =>
          t.mc.phase = .leaving ∧ t.mc.cause = stop ∧ t.mc.pendingStop = none ∧ t.table = some after ∧ t.ba.cap = 0 ∧
          t.hp = post .leaving stop (post .joined .accepted posted) ∧
          (appliedSum s = 0 → has .leave t.lif.queue = true ∨ .leave ∈ t.mc.held))) ∧
    (s.table = some tb → joiner ∨ s.mc.phase = .leaving → f.sender = s.num → f.body = .join floor pool interval →
      effect = .joinRefused refusal →
      ends fun t =>
        let refused := fun (c : Cause) => post s.mc.phase c s.hp
        (s.mc.phase ≠ .leaving → s.mc.pendingStop = some stop →
          t.mc.phase = .offline ∧ t.mc.cause = stop ∧ t.table = none ∧ t.lif.queue = [] ∧
          t.hp = post .offline stop s.hp) ∧
        (s.mc.phase ≠ .leaving → s.mc.pendingStop = none → refusal = .poolMismatch →
          t.mc.phase = .fault ∧ t.mc.cause = .poolMismatch ∧ t.table = none ∧ t.lif.queue = [] ∧
          t.hp = post .fault .poolMismatch s.hp) ∧
        (s.mc.phase ≠ .leaving → s.mc.pendingStop = none → refusal = .duplicate → s.mc.dupCount = 0 →
          t.mc.phase = s.mc.phase ∧ t.mc.dupCount = 1 ∧ t.hp = refused .duplicate ∧
          (has .leave t.lif.queue = true ∨ .leave ∈ t.mc.held)) ∧
        (s.mc.phase ≠ .leaving → s.mc.pendingStop = none → refusal = .duplicate → 0 < s.mc.dupCount →
          t.mc.phase = .fault ∧ t.mc.cause = .duplicateNumber ∧ t.table = none ∧ t.lif.queue = [] ∧
          t.hp = post .fault .duplicateNumber (refused .duplicate)) ∧
        (s.mc.phase ≠ .leaving → s.mc.pendingStop = none → refusal = .lapsed →
          t.mc.phase = s.mc.phase ∧ t.mc.rejoin = startMs (2 * s.inUse.tPresence) ∧ t.hp = refused .lapsed) ∧
        (s.mc.phase = .leaving →
          t.mc.phase = .leaving ∧ t.mc.cause = s.mc.cause ∧ t.mc.dupCount = s.mc.dupCount ∧
          t.hp = (match refusal with
            | .duplicate => refused .duplicate
            | .lapsed => refused .lapsed
            | .poolMismatch => s.hp)) ∧
        (t.mc.phase = s.mc.phase → t.table = some after ∧
          (s.lif.Orderly → s.lif.waiting = .none → r.body = f.body → has .join t.lif.queue = false))) ∧
    (s.table = some tb → joiner → f.sender = s.num → f.body = .leave →
      ends fun t =>
        t.mc.phase = s.mc.phase ∧ t.table = some after ∧ t.mc.rejoin = none ∧ t.hp = posted ∧
        (has .join t.lif.queue = true ∨ t.mc.held.any (fun b => b.kind == .join) = true)) ∧
    (s.table = some tb → s.mc.phase = .leaving → f.sender = s.num → f.body = .leave →
      ends fun t =>
        t.mc.phase = .offline ∧ t.mc.cause = s.mc.cause ∧ t.AtRest ∧ t.lif.queue = [] ∧ t.lif.kept = none ∧
        t.hp = post .offline s.mc.cause posted) ∧
    (s.table = some tb → member → f.sender = s.num → f.body.kind ≠ .join → f.body.kind ≠ .leave →
      f.body.target ≠ some s.num.val →
      ends fun t =>
        t.mc.phase = s.mc.phase ∧ t.mc.cause = s.mc.cause ∧ t.table = some after ∧
        t.mc.presence = startMs s.inUse.tPresence ∧ t.hp = posted ∧
        (s.lif.Orderly → f.body.kind ≠ .present → McWithdrew (.present, none) t) ∧
        (s.lif.Orderly → s.lif.waiting = .none → r.body = .present → f.body = .present →
          has .present t.lif.queue = false) ∧
        (f.body.kind = .claim → claimAmount t = 0 →
          t.ba.claim = .none ∧ (s.lif.Orderly → s.lif.waiting = .none → r.body = f.body → has .claim t.lif.queue = false)) ∧
        (f.body.kind = .release →
          t.ba.bound = none ∧
          (releaseWanted t = false →
            t.ba.release = .none ∧
            (s.lif.Orderly → s.lif.waiting = .none → r.body = f.body → has .release t.lif.queue = false))) ∧
        (s.mc.phase = .joined → s.lif.Orderly → s.lif.waiting = .none → rest.length < 5 →
          let u := match f.body.kind with
            | .claim => { s with ba := { s.ba with claim := .none } }
            | .release => { s with ba := { s.ba with release := .none, bound := none, idleTimer := none, idleMark := false } }
            | _ => s
          (u.ba.claim = .none → has .claim rest = false) → (u.ba.release = .none → has .release rest = false) →
          BudgetTested u t) ∧
        (s.mc.phase = .joined → s.lif.Orderly →
          PeersFollow s.num tb.image after.image s t ∧
          WatchesFollow (fun k => f.body.kind == .lapse && f.body.target == some k.val) tb.image after.image s t) ∧
        (s.mc.phase = .joined → s.tu.snapshot = some n → f.body = .snapshot n.joiner.val n.base n.next data →
          (n.next < 4 →
            t.tu.snapshot = some { n with next := n.next + 1 } ∧
            (t.tu.pieceHeld = true ∨ t.lif.queue.any (fun q => q.body.kind == .snapshot && q.requesters.tu) = true)) ∧
          (4 ≤ n.next → t.tu.snapshot = none ∧ t.tu.pieceHeld = false)))

/-- The comparison by AC of a foreign frame accepted in JOINING, JOINED or LEAVING, a SYNCREQ apart (R117 to R121): an
agreement empties the doubt set; a disagreement is recorded, and puts its sender into an empty doubt set with the timer at
full length, leaves a set that holds its sender, or, from a second sender, ends the membership with cause DIVERGED; in
JOINED and LEAVING a frame that carries the own number or lapses the own entry ends it with its own cause first (R90, R91,
R123). -/
def Obligations.AgreementChecked : Prop :=
  ∀ (chars : List RxChar) (f : Frame) (tb : Table) (k : Station) (s : State), s.inReset = false →
    s.lif.line.isSending = false → receive chars = .passed f → f.body.kind ≠ .syncreq → s.table = some tb →
    s.mc.phase = .joining ∨ s.mc.phase = .joined ∨ s.mc.phase = .leaving →
    let m : Mismatch := if f.order = tb.n then .digest else if f.digest = tb.digest then .order else .both
    let record : Disagreement :=
      { sender := f.sender, kind := f.body.kind, order := f.order, digest := f.digest, localN := tb.n,
        localDigest := tb.digest, mismatch := m }
    Completes (exec (.frameReceived chars false) s) fun t =>
      (f.order = tb.n → f.digest = tb.digest → t.ac = { s.ac with doubt := none, timer := none }) ∧
      (f.order ≠ tb.n ∨ f.digest ≠ tb.digest →
        t.ac.last = some record ∧
        (s.ac.doubt = none → foreignEnds s f tb = none →
          t.ac.doubt = some f.sender ∧ t.ac.timer = startMs (3 * s.inUse.tPresence)) ∧
        (s.ac.doubt = some f.sender → foreignEnds s f tb = none →
          t.ac.doubt = s.ac.doubt ∧ t.ac.timer = s.ac.timer) ∧
        (s.ac.doubt = some k → k ≠ f.sender →
          t.table = none ∧ t.ac.doubt = none ∧ t.ac.timer = none ∧
          (t.mc.phase, t.mc.cause) =
            if s.mc.phase ≠ .joining ∧ f.sender = s.num then (.fault, .duplicateNumber)
            else if s.mc.phase ≠ .joining ∧ tb.image.isPresent f.sender = true ∧ tb.image.isPresent s.num = true ∧
                (f.body = .lapse s.num.val 1 ∨ f.body = .lapse s.num.val 2) then (.out, .lapsed)
            else (.out, .diverged)))

/-- REQUEST_ABANDONED (R143), the end of the eighth attempt itself (log 6): FRAME_ABANDONED is posted and the LINE flag set,
the request leaves OQ and the others keep their order, and each requester acts: BA holds off a claim (R167; in LEAVING too,
log 56, and not where the table went, R175) and lifts the bound of a release (R172), its tests after that in the order of
log 44, MC restarts a peer timer (R82, R83) or requests a LEAVE (of R71 by its count, log 43) or JOIN again (R73, R86),
settles a pending stop (R88; in SYNCING log 31) or starts the rejoin timer after the LEAVE of OUT (R92), TU tries again or,
the third time, MC enters FAULT with SYNC_FAILED (R69, R98, R112), or TU ends its snapshot (R104). In LISTEN the eighth void
end of an attempt found on the line by an entry to OFFLINE or FAULT is an abandonment, the MODEL's choice (log 51). -/
def Obligations.RequestAbandonedAfterEight : Prop :=
  ∀ (a : Attempt) (r : Request) (rest : List Request) (k : Station) (stop : Cause) (s : State), s.inReset = false →
    s.lif.line = .sending a → receive (cleanChars a.bytes) ≠ .truncated → s.lif.queue = r :: rest → r.attempts = 7 →
    s.mc.phase ≠ .fault → s.mc.phase ≠ .offline →
    Completes (exec .requestAbandoned s) fun t =>
      t.hp.flags.getLsbD 4 = true ∧ (s.lif.Orderly → HeadEnded rest s t) ∧
      (t.mc.phase = s.mc.phase → (rest.map (·.body)) <+: t.lif.queue.map (·.body)) ∧
      (s.hp.events.length ≤ 14 → ∃ e ∈ t.hp.events, e.kind = .frameAbandoned ∧ e.amount = 8 ∧
        e.cause = (kindCode r.body.kind).toNat ∧ e.station = r.body.target.getD s.num.val) ∧
      (r.body.kind = .present → s.lif.waiting = .none → rest.length < 6 → a.senderByteEnded = true →
        Rebudgeted
          { s with
            lif := { s.lif with line := .slots 0, objected := false, queue := rest }
            hp := s.hp.post .frameAbandoned s.num.val 8 0x13 } t) ∧
      (r.body.kind = .claim → s.mc.phase = .joined ∨ s.mc.phase = .leaving →
        t.ba.claim = .holdoff ∧ t.ba.holdoff = startMs s.inUse.tPresence) ∧
      (r.body.kind = .claim → s.mc.phase ≠ .joined → s.mc.phase ≠ .leaving →
        t.ba.claim = .none ∧ t.ba.holdoff = s.ba.holdoff) ∧
      (r.body.kind = .release → t.ba.bound = none) ∧
      (r.body.kind = .lapse → r.body.target = some k.val → s.mc.phase = .joined → r.requesters.mc = true →
        s.image.entries[k].state = .present → t.mc.lastHeard[k] = startMs s.inUse.tPresence) ∧
      (r.body.kind = .lapse → r.body.target = some k.val → r.requesters.ca = true → s.watches[k] = .sending →
        t.watches[k] =
          if s.image.entries[k].state = .present ∧ 0 < s.image.entries[k].recallDue then
            .timing { length := s.inUse.tRecall * 1000, run := 0 } else .idle) ∧
      (r.body.kind = .free → r.body.target = some k.val → s.mc.phase = .joined →
        s.image.entries[k].state = .lapsed → t.mc.quarantine[k] = startMs s.inUse.tQuar) ∧
      (r.body.kind = .leave → s.mc.phase = .leaving ∨
          ((s.mc.phase = .founding ∨ s.mc.phase = .joining) ∧ 0 < s.mc.dupCount) → s.mc.awaitLeave = false →
        t.lif.queue.any (fun q => q.body.kind == .leave) = true ∨ .leave ∈ t.mc.held) ∧
      (r.body.kind = .leave → s.mc.awaitLeave = true →
        t.mc.phase = s.mc.phase ∧ t.mc.awaitLeave = false ∧ t.mc.rejoin = startMs (2 * s.inUse.tPresence)) ∧
      (r.body.kind = .join → s.mc.pendingStop = some stop →
        t.mc.phase = .offline ∧ t.mc.cause = stop ∧ t.AtRest ∧ t.lif.queue = []) ∧
      (r.body.kind = .join → s.mc.phase = .founding ∨ s.mc.phase = .joining → s.mc.pendingStop = none →
        t.lif.queue.any (fun q => q.body.kind == .join) = true ∨ t.mc.held.any (fun b => b.kind == .join) = true) ∧
      (r.body.kind = .syncreq → s.tu.joiner = .asking → s.tu.attempt < 2 →
        t.tu.joiner = .asking ∧ t.tu.attempt = s.tu.attempt + 1 ∧
        (has .syncreq t.lif.queue = true ∨ t.tu.syncreqHeld = true)) ∧
      (r.body.kind = .syncreq → s.tu.joiner = .asking → 2 ≤ s.tu.attempt →
        t.mc.phase = .fault ∧ t.mc.cause = .syncFailed ∧ t.LevelsAtZero ∧ t.AtRest ∧ t.lif.queue = []) ∧
      (∀ b i d n, r.body = .snapshot k.val b i d → s.tu.snapshot = some n → n.joiner = k → n.base = b →
        t.tu.snapshot = none)

/-- SELF_OBJECTION_LIMIT (R91, R93, R134), the end of the eighth frame itself (log 6): the eighth failure in a row puts the
station OUT with cause LINE_FAULT, whether it failed a frame of another station or its own read-back, which is the
FRAME_RECEIVED of VoidAttemptCounted (log 58), the eighth void end with it or not. The command carries no sender byte of a
foreign frame and needs no reception before it (log 61). -/
def Obligations.SelfObjectionLimitGoesOut : Prop :=
  ∀ (failure : FailKind) (a : Attempt) (r : Request) (rest : List Request) (chars : List RxChar) (objected : Bool)
    (s : State), s.inReset = false → s.lif.selfObjection = 7 → s.mc.phase ≠ .offline → s.mc.phase ≠ .out → s.mc.phase ≠ .fault →
    (s.lif.line.isSending = false →
      Completes (exec (.selfObjectionLimit failure) s) fun t =>
        WentOut .lineFault s t ∧ t.lif.lastFailure = some failure ∧ t.lif.line = .slots 0 ∧
        t.lif.objected = (s.mc.phase != .listen)) ∧
    (s.lif.line = .sending a → a.senderByteEnded = true → s.lif.queue = r :: rest → r.attempts < 7 →
      Completes (exec (.selfObjectionLimit failure) s) fun t =>
        WentOut .lineFault
          { s with lif := { s.lif with queue := { r with attempts := r.attempts + 1 } :: rest } } t ∧
        t.lif.line = .slots 0 ∧ t.lif.objected = true) ∧
    (s.lif.line = .sending a → a.senderByteEnded = true → chars ≠ [] → chars ≠ cleanChars a.bytes →
      exec (.selfObjectionLimit failure) s = exec (.frameReceived chars objected) s)

/-! ## Timers -/

/-- LISTEN_TIMER_EXPIRY (R18, R65, R66): FOUNDING with cause QUIET, the empty table at N = 0 with the digest of its 229 zero
bytes, and the own JOIN requested, or held when OQ is full. The command is the expiry whatever the
timer has run (log 57). -/
def Obligations.ListenExpiryFounds : Prop :=
  ∀ (s : State), s.inReset = false → s.mc.listen.isSome = true →
    s.lif.queue.all (fun r => r.body.kind != .join) = true →
    let body : Body := .join s.inUse.floor s.inUse.pool s.inUse.tPresence
    let founded := { s with
      table := some {
        image := {
          pool := none
          entries := Vector.replicate 32 { state := .absent, floor := 0, holding := 0, recallDue := 0 }
          wait := [] },
        n := 0, digest := crc16 (List.replicate 229 0) },
      mc := { s.mc with phase := .founding, cause := .quiet, listen := none },
      lif := { s.lif with kept := none },
      hp := s.hp.post .phase s.num.val 2 0x05 }
    (s.lif.queue.length < 8 →
      exec .listenTimerExpiry s =
        .next { founded with lif := { founded.lif with
          queue := s.lif.queue ++
            [{ body := body, requesters := { mc := true, ca := false, ba := false, tu := false }, attempts := 0,
               inTransmission := false, heldWithdrawals := .none }] } }) ∧
    (8 ≤ s.lif.queue.length → s.mc.held = [] →
      exec .listenTimerExpiry s =
        .next { founded with
          mc := { founded.mc with held := [body] }
          lif := { founded.lif with waiting := { s.lif.waiting with mc := true } } })

/-- PRESENCE_TIMER_EXPIRY, LAST_HEARD_TIMER_EXPIRY and QUARANTINE_TIMER_EXPIRY (R80, R81, R83): MC requests a PRESENT, a
LAPSE of the peer with cause SILENT, a FREE of the peer; a request that OQ refuses is held (R73). The presence timer runs on
from full length, the others stop. A foreign frame applied in JOINED (R79, R81 to R83) restarts the last-heard timer of its
sender, starts the one of a peer that becomes PRESENT and stops the one of a peer that leaves PRESENT; it starts the
quarantine timer of a peer that becomes LAPSED and stops it when it leaves LAPSED; and MC's LAPSE of its sender or of a peer
that has left PRESENT, and its FREE of one that has left LAPSED, are withdrawn. Orderly is the invariant of
EveryStepKeepsQueuesInBounds. The command is the expiry whatever the
timer has run (log 57). -/
def Obligations.MemberTimersMakeRequests : Prop :=
  ∀ (k : Station) (chars : List RxChar) (f : Frame) (tb : Table) (s : State), s.inReset = false →
    let asked := fun (body : Body) (mc : Mc) =>
      { s with
        lif := (s.lif.request body .mc).1,
        mc := if (s.lif.request body .mc).2 = .refused ∧ s.mc.held.any (fun b => b.sameKey body) = false then
          { mc with held := s.mc.held ++ [body] } else mc }
    (s.mc.presence.isSome = true →
      exec .presenceTimerExpiry s =
        .next (asked .present
          { s.mc with presence := some { length := s.inUse.tPresence * 1000, run := 0 } })) ∧
    (s.mc.lastHeard[k].isSome = true →
      exec (.lastHeardTimerExpiry k) s =
        .next (asked (.lapse k.val 1) { s.mc with lastHeard := s.mc.lastHeard.set k none })) ∧
    (s.mc.quarantine[k].isSome = true →
      exec (.quarantineTimerExpiry k) s =
        .next (asked (.free k.val) { s.mc with quarantine := s.mc.quarantine.set k none })) ∧
    (s.lif.Orderly → s.mc.phase = .joined → s.lif.line.isSending = false → receive chars = .passed f →
      s.table = some tb → foreignEnds s f tb = none →
      Completes (exec (.frameReceived chars false) s) fun t =>
        PeersFollow f.sender tb.image (tb.apply f.sender f.body).1.image s t)

/-- REJOIN_TIMER_EXPIRY (R72, R89, R92, R93): in OUT, FAULT with cause LINE_FAULT at a line-fault OUT count of 3, else
OFFLINE in CUT, else LISTEN with cause REJOIN, a request still in transmission staying in OQ (log 46); in JOINING, and in
FOUNDING, where the timer runs by the deduction of log 54 from R66, the JOIN is requested again. The command is the expiry
whatever the timer has run (log 57). -/
def Obligations.RejoinExpiryByPhase : Prop :=
  ∀ (s : State), s.inReset = false → s.mc.rejoin.isSome = true →
    (s.mc.phase = .out → s.lif.lineFaultOut = 3 →
      Completes (exec .rejoinTimerExpiry s) fun t =>
        t.mc.phase = .fault ∧ t.mc.cause = .lineFault ∧ t.LevelsAtZero ∧ t.AtRest ∧ t.lif.kept = none ∧
        t.mc.rejoin = none ∧ t.hp = s.hp.post .phase s.num.val 8 0x0C) ∧
    (s.mc.phase = .out → s.lif.lineFaultOut ≠ 3 → s.tm.state = .cut →
      Completes (exec .rejoinTimerExpiry s) fun t =>
        t.mc.phase = .offline ∧ t.mc.cause = .thermal ∧ t.AtRest ∧ t.lif.kept = none ∧ t.mc.rejoin = none ∧
        t.hp = s.hp.post .phase s.num.val 0 0x02) ∧
    (s.mc.phase = .out → s.lif.lineFaultOut ≠ 3 → s.tm.state ≠ .cut →
      exec .rejoinTimerExpiry s =
        .next { s with
          mc := { s.mc with
            phase := .listen, cause := .rejoin, rejoin := none, dupCount := 0
            listen := some { length := 5 * s.inUse.tPresence * 1000, run := 0 } }
          lif := { s.lif with selfObjection := 0, kept := none }
          hp := s.hp.post .phase s.num.val 1 0x04 }) ∧
    (s.mc.phase = .founding ∨ s.mc.phase = .joining →
      Completes (exec .rejoinTimerExpiry s) fun t =>
        t.mc.phase = s.mc.phase ∧ t.mc.rejoin = none ∧ t.hp = s.hp ∧
        t.lif = (s.lif.request (.join s.inUse.floor s.inUse.pool s.inUse.tPresence) .mc).1)

/-- RECALL_TIMER_EXPIRY (R51, R146): a LAPSE of the debtor with cause RECALL is requested, and the watch goes to REQUESTED,
to HELD when OQ refuses it, to SENDING when it merges into one in transmission. A foreign frame applied in JOINED (R48 to
R50, R53, R54) starts the watch of an entry it makes a PRESENT debtor, at full length, ends a watch that is TIMING, HELD or
REQUESTED when the entry is one no more, and leaves every other as it is, one in SENDING too, but that one that stays HELD
may ask again when OQ shrinks (R51, R147); a watch that ends in REQUESTED withdraws its part of the LAPSE. Orderly is the
invariant of EveryStepKeepsQueuesInBounds. The command is the expiry whatever the
timer has run (log 57). -/
def Obligations.RecallExpiryRequestsLapse : Prop :=
  ∀ (k : Station) (chars : List RxChar) (f : Frame) (tb : Table) (s : State), s.inReset = false →
    (s.watches[k].isTiming = true →
      let q := s.lif.request (.lapse k.val 2) .ca
      exec (.recallTimerExpiry k) s =
        .next { s with
          lif := q.1
          watches := s.watches.set k (match q.2 with
            | .refused => .held
            | .taken => .requested
            | .begun => .sending) }) ∧
    (s.lif.Orderly → s.mc.phase = .joined → s.lif.line.isSending = false → receive chars = .passed f →
      s.table = some tb → foreignEnds s f tb = none →
      Completes (exec (.frameReceived chars false) s) fun t =>
        WatchesFollow (fun _ => false) tb.image (tb.apply f.sender f.body).1.image s t)

/-- SYNC_TIMER_EXPIRY (R69, R110, R112): the attempt fails; the next attempt is asked for, or after the third MC enters FAULT
with cause SYNC_FAILED. The command is the expiry whatever the
timer has run (log 57). -/
def Obligations.SyncExpiryRetriesOrFails : Prop :=
  ∀ (s : State), s.inReset = false → s.tu.sync.isSome = true →
    (s.tu.attempt < 2 →
      let q := s.lif.request (.syncreq (s.tu.attempt + 1) s.inUse.pool) .tu
      exec .syncTimerExpiry s =
        .next { s with
          lif := q.1
          tu := { s.tu with
            joiner := .asking, attempt := s.tu.attempt + 1, sync := none, catchUp := [], pieces := [], anchor := none
            responder := none, base := none, syncreqHeld := q.2 == .refused } }) ∧
    (2 ≤ s.tu.attempt →
      Completes (exec .syncTimerExpiry s) fun t =>
        t.mc.phase = .fault ∧ t.mc.cause = .syncFailed ∧ t.LevelsAtZero ∧ t.AtRest ∧ t.lif.kept = none ∧
        t.hp = s.hp.post .phase s.num.val 8 0x0F)

/-- DOUBT_TIMER_EXPIRY (R91, R92, R122): divergence is concluded and MC enters OUT with cause DIVERGED. The command is the
expiry whatever the timer has run (log 57). A request in its first sender byte at that entry is discarded if its start is
lost, and a LEAVE there is wanted again (logs 16 and 38). -/
def Obligations.DoubtExpiryGoesOut : Prop :=
  ∀ (s : State), s.inReset = false → s.ac.timer.isSome = true →
    Completes (exec .doubtTimerExpiry s) fun t => WentOut .diverged s t ∧ t.ac.last = s.ac.last

/-- RELEASE_IDLE_TIMER_EXPIRY and HOLDOFF_TIMER_EXPIRY (R165, R167, R169, R170): the idle mark is set exactly when the idle
condition holds, and a RELEASE wanted then is requested; the hold-off ends, the claim side goes to NONE, and BA claims when
the claim amount is above 0 and the release side is NONE. BA's tests come in the order of log 44. The command is the expiry
whatever the timer has run (log 57). -/
def Obligations.BudgetTimersLeadToRequests : Prop :=
  ∀ (s : State), s.inReset = false →
    (s.ba.idleTimer.isSome = true →
      Completes (exec .releaseIdleTimerExpiry s) fun t =>
        Rebudgeted { s with ba := { s.ba with idleTimer := none, idleMark := true } } t ∧ t.ba.idleTimer = none ∧
        (t.ba.idleMark = true ↔ t.mc.phase = .joined ∧ t.ownWaits = false ∧
          min t.ba.demand t.ba.cap < t.ownEntry.holding - t.ownEntry.recallDue) ∧
        (s.ba.release = .none → s.lif.queue.length < 7 →
          s.lif.queue.all (fun r => r.body.kind != .release) = true → t.mc.phase = .joined →
          0 < intendedRelease t → appliedSum t ≤ t.ownEntry.holding - intendedRelease t →
          t.ba.release = .queued ∧ t.lif.queue.any (fun r => r.body.kind == .release) = true)) ∧
    (s.ba.holdoff.isSome = true →
      Completes (exec .holdoffTimerExpiry s) fun t =>
        Rebudgeted { s with ba := { s.ba with holdoff := none, claim := .none } } t ∧ t.ba.holdoff = none ∧
        (claimAmount t = 0 ∨ s.ba.release ≠ .none → t.ba.claim = .none) ∧
        (0 < claimAmount t → s.ba.release = .none → s.lif.queue.length < 8 →
          s.lif.queue.all (fun r => r.body.kind != .claim) = true →
          t.ba.claim = .queued ∧ t.lif.queue.any (fun r => r.body.kind == .claim) = true))

/-! ## Loads (chapters 8 and 9) -/

/-- THERMAL_SAMPLE (R89, R177, R179 to R181): the sample is the reading within -40 to 150, and the 8 ms to the next begin
again (log 34); TM moves by the table of R179 with the thresholds in use; a change posts THERMAL and BA forms C and stages
again; an entry to CUT posts THERMAL before any PHASE (log 9), forces the levels to zero and takes MC to LEAVING from
JOINED, the requests of a member's work withdrawn (R57, R84, R104, R174), to OFFLINE from LISTEN and SYNCING, and in FOUNDING
and JOINING acts as STOP does there by the own entry and the own JOIN (logs 15 and 24). BA's tests come in the order of log
44. -/
def Obligations.ThermalSampleMovesState : Prop :=
  ∀ (reading : Int) (after : Thermal) (s : State), s.inReset = false →
    let x : Int := max (-40) (min 150 reading)
    let c := (x + 40).toNat
    (s.inUse.cutoff ≤ c ∧ after = .cut ∨
      c < s.inUse.cutoff ∧
        (s.tm.state = .normal ∧ s.inUse.hot ≤ c ∧ after = .derated ∨
          s.tm.state = .normal ∧ c < s.inUse.hot ∧ after = .normal ∨
          s.tm.state = .derated ∧ s.inUse.cool < c ∧ after = .derated ∨
          s.tm.state = .derated ∧ c ≤ s.inUse.cool ∧ after = .normal ∨
          s.tm.state = .cut ∧ s.inUse.cool < c ∧ after = .cut ∨
          s.tm.state = .cut ∧ c ≤ s.inUse.cool ∧ after = .normal)) →
    Completes (exec (.thermalSample reading) s) fun t =>
      t.tm = { state := after, sample := some x, clock := 0 } ∧
      (after = s.tm.state → t = { s with tm := t.tm }) ∧
      (after ≠ s.tm.state → after ≠ .cut →
        Rebudgeted
          { s with tm := t.tm, hp := s.hp.post .thermal s.num.val c (if after = .normal then 0 else 1) } t) ∧
      (after ≠ s.tm.state → after = .cut →
        t.LevelsAtZero ∧ t.ba.cap = 0 ∧ t.hp.flags.getLsbD 5 = true ∧
        (s.hp.events.length < 16 → t.hp.events[s.hp.events.length]?.map
          (fun e => (e.kind, e.station, e.amount, e.cause)) = some (.thermal, s.num.val, c, 2)) ∧
        (s.mc.phase = .joined → t.mc.phase = .leaving ∧ t.mc.cause = .thermal ∧ t.table = s.table ∧
          (s.lif.Orderly → PartsWithdrawn s t)) ∧
        (s.mc.phase = .listen ∨ s.mc.phase = .syncing →
          t.mc.phase = .offline ∧ t.mc.cause = .thermal ∧ t.table = none) ∧
        (s.mc.phase = .founding ∨ s.mc.phase = .joining →
          (s.ownEntry.state = .present → t.mc.phase = .leaving ∧ t.mc.cause = .thermal ∧ t.table = s.table) ∧
          (s.ownEntry.state ≠ .present → s.lif.queue.any (fun r => r.body.kind == .join && r.inTransmission) = true →
            t.mc.phase = s.mc.phase ∧ t.mc.cause = s.mc.cause ∧ t.table = s.table ∧
            t.mc.pendingStop = some (s.mc.pendingStop.getD .thermal)) ∧
          (s.ownEntry.state ≠ .present → s.lif.queue.any (fun r => r.body.kind == .join && r.inTransmission) = false →
            t.mc.phase = .offline ∧ t.mc.cause = .thermal ∧ t.table = none)) ∧
        (s.mc.phase = .offline ∨ s.mc.phase = .leaving ∨ s.mc.phase = .out ∨ s.mc.phase = .fault →
          t.mc.phase = s.mc.phase ∧ t.mc.cause = s.mc.cause ∧ t.table = s.table))

/-- PERIOD_BOUNDARY (R161, R174, R183, R184, R186): the four staged levels become the applied levels together, the counter
returns to 0, from whatever count the command finds (the MODEL's choice, log 59), BA takes the boundary notice; in LEAVING
with the levels at 0 the LEAVE is requested (R86). In the period that begins an output is high for the on-time of its level
and low after it; at a level equal to the rating it is high at every count, so across the boundary too, and at level 0 low
throughout. BA's tests come in the order of log 44. -/
def Obligations.BoundaryAppliesStagedLevels : Prop :=
  ∀ (s : State), s.inReset = false →
    Completes (exec .periodBoundary s) fun t =>
      (∀ c : Channel, t.co.channels[c].applied = s.co.channels[c].staged) ∧
      Rebudgeted
        { s with
          co := { channels := s.co.channels.map (fun ch => { ch with applied := ch.staged }), counter := 0 }
          ba := { s.ba with boundarySeen := s.ba.boundarySeen || s.mc.phase == .joined } } t ∧
      (s.mc.phase = .leaving → s.ba.zeroReported = false → (∀ c : Channel, s.co.channels[c].staged = 0) →
        t.lif.queue.any (fun r => r.body.kind == .leave) = true ∨ .leave ∈ t.mc.held) ∧
      (∀ (c : Channel) (n : Nat), n < s.inUse.period →
        let high := ({ t with co := { t.co with counter := n } } : State).outHigh c
        let level := s.co.channels[c].staged
        let rated := [s.inUse.rating0, s.inUse.rating1, s.inUse.rating2, s.inUse.rating3].getD c.val 0
        (high = true ↔ n < level * s.inUse.period / rated) ∧
        (level = rated → 1 ≤ rated → high = true) ∧ (level = 0 → high = false))

/-- FAULT_INPUT_ASSERTED and FAULT_INPUT_RELEASED (R188 to R190): an assertion forces the channel to zero, its output low at
once, and with its mark clear sets it and posts CHANNEL_FAULT; BA forms D and stages again. An assertion of an input that is
asserted changes nothing (log 2). A release leaves the mark. BA's tests come in the order of log 44. -/
def Obligations.FaultInputForcesZero : Prop :=
  ∀ (c : Channel) (s : State), s.inReset = false →
    (s.co.channels[c].input = false → s.co.channels[c].faulted = false →
      Completes (exec (.faultInputAsserted c) s) fun t =>
        t.co.channels[c].faulted = true ∧ t.co.channels[c].applied = 0 ∧ t.co.channels[c].staged = 0 ∧
        t.outHigh c = false ∧
        Rebudgeted
          { s with
            co := { s.co with
              channels := s.co.channels.set c
                { s.co.channels[c] with input := true, faulted := true, applied := 0, staged := 0 } }
            hp := s.hp.post .channelFault s.num.val c.val 1 } t) ∧
    (s.co.channels[c].input = false → s.co.channels[c].faulted = true →
      Completes (exec (.faultInputAsserted c) s) fun t =>
        t.co.channels[c].applied = 0 ∧ t.co.channels[c].staged = 0 ∧ t.outHigh c = false ∧
        Rebudgeted
          { s with
            co := { s.co with
              channels := s.co.channels.set c { s.co.channels[c] with input := true, applied := 0, staged := 0 } } } t) ∧
    (s.co.channels[c].input = true → exec (.faultInputAsserted c) s = .next s) ∧
    exec (.faultInputReleased c) s =
      .next { s with
        co := { s.co with channels := s.co.channels.set c { s.co.channels[c] with input := false } } }

/-! ## OQ (section 6.6) -/

/-- What OQ does with a request (R145 to R147) and with a withdrawal (R148): it joins the tail; or merges into the one
request of its kind and target, which keeps its place, count and state (and, the MODEL's choice of log 38, loses the block's
own held withdrawal; its body stays, a SYNCREQ's too: log 47); or is refused, by a full queue or by a SNAPSHOT of another
joiner, base or index, and its block marked. A withdrawal takes the block's part while the first attempt has not begun, and
the request leaves with its last requester; one made in the sender byte of the first attempt is held (R141). -/
def Obligations.QueueTakesMergesRefuses : Prop :=
  ∀ (lif : Lif) (body : Body) (b : Block) (a : Attempt) (r : Request) (before after : List Request),
    ((∀ q ∈ lif.queue, (q.body.kind, q.body.target) ≠ (body.kind, body.target)) → lif.queue.length < 8 →
      lif.request body b =
        ({ lif with
            queue := lif.queue ++
              [{ body := body, requesters := .only b, attempts := 0, inTransmission := false,
                 heldWithdrawals := .none }] }, .taken)) ∧
    ((∀ q ∈ lif.queue, (q.body.kind, q.body.target) ≠ (body.kind, body.target)) → 8 ≤ lif.queue.length →
      lif.request body b = ({ lif with waiting := lif.waiting.union (.only b) }, .refused)) ∧
    (lif.queue = before ++ r :: after → (r.body.kind, r.body.target) = (body.kind, body.target) →
      (∀ q ∈ before ++ after, (q.body.kind, q.body.target) ≠ (body.kind, body.target)) →
      (body.kind ≠ .snapshot →
        lif.request body b =
          ({ lif with
              queue := before ++
                { r with
                  requesters := r.requesters.union (.only b)
                  heldWithdrawals := r.heldWithdrawals.diff (.only b) } :: after },
            if r.inTransmission then .begun else .taken)) ∧
      (∀ j n i d j' n' i' d', r.body = .snapshot j n i d → body = .snapshot j' n' i' d' →
        (j, n, i) ≠ (j', n', i') →
        lif.request body b = ({ lif with waiting := lif.waiting.union (.only b) }, .refused)) ∧
      (r.inTransmission = true → lif.line.isSending = false →
        lif.withdraw body b = (lif, false)) ∧
      (before = [] → r.inTransmission = false → lif.line = .sending a → a.senderByteEnded = false →
        lif.withdraw body b =
          ({ lif with queue := { r with heldWithdrawals := r.heldWithdrawals.union (.only b) } :: after }, false)) ∧
      (r.inTransmission = false → lif.line.isSending = false →
        lif.withdraw body b =
          if (r.requesters.diff (.only b)).isEmpty then ({ lif with queue := before ++ after }, true)
          else ({ lif with queue := before ++ { r with requesters := r.requesters.diff (.only b) } :: after },
            false)))

/-! ## Table transfer (chapter 4) -/

/-- A SYNCREQ applied at a JOINED station (R99, R100, R101, R103, R104). One of the joiner of a snapshot in progress, out of
range or not, ends that snapshot, its piece not begun withdrawn; any other leaves it. A station with the buffer idle then
that is selected takes the image as it stands after the application into it, with base N, and requests piece 0, held when OQ
refuses it. Orderly is the invariant of EveryStepKeepsQueuesInBounds. -/
def Obligations.SelectedStationAnswers : Prop :=
  ∀ (chars : List RxChar) (f : Frame) (tb : Table) (attempt pool : Nat) (n : Snapshot) (s : State), s.inReset = false →
    s.lif.line.isSending = false → receive chars = .passed f → f.body = .syncreq attempt pool → f.sender ≠ s.num →
    s.mc.phase = .joined → s.table = some tb →
    Completes (exec (.frameReceived chars false) s) fun t =>
      t.mc.phase = .joined ∧ t.table = some { tb with n := tb.n + 1, digest := tb.image.crc } ∧
      (attempt ≤ 2 → 1 ≤ pool → pool ≤ 4000 → tb.image.pool.map (·.pool) = some pool →
        (tb.image.presentStations)[attempt % tb.image.presentStations.length]? = some s.num →
        s.tu.snapshot = none ∨ (s.tu.snapshot = some n ∧ n.joiner = f.sender) →
        t.tu.snapshot =
          some { joiner := f.sender, base := tb.n + 1, image := tb.image, digest := tb.image.crc, next := 0 } ∧
        (t.tu.pieceHeld = true ∨ t.lif.queue.any (fun r => r.body.kind == .snapshot && r.requesters.tu) = true)) ∧
      (s.tu.snapshot = some n → n.joiner = f.sender →
        (tb.apply f.sender f.body).2 ≠ .selected (.station s.num) →
        t.tu.snapshot = none ∧ t.tu.pieceHeld = false ∧
        (s.lif.Orderly → ∀ q ∈ t.lif.queue, q.body.kind = .snapshot → q.inTransmission = true ∨ q.requesters.tu = false)) ∧
      (s.tu.snapshot = some n → n.joiner ≠ f.sender → t.tu.snapshot = s.tu.snapshot)

/-- The joiner's transfer at each accepted frame. The own SYNCREQ accepted in ASKING starts the collection with the sync
timer and is not stored; another frame in ASKING changes nothing (R96, R98). In COLLECTING a frame's record joins the
catch-up queue, a SNAPSHOT as a marker, and a piece that meets the conditions is kept aside, the first fixing the anchor
order, the responder and the base (R105 to R107). With the fifth piece kept, the image that the pieces describe is installed
at the base order and every record replayed on it, and MC enters JOINING and requests its JOIN; when they describe none the
attempt fails (R20, R108, R69). With 24 records held the attempt fails (R111): the next is asked for, or after the third MC
enters FAULT with cause SYNC_FAILED (R112). After an installation the attempt number stays (log 32), and the expected
responder and base are cleared, the MODEL's choice (log 55). -/
def Obligations.CollectingStoresFrames : Prop :=
  ∀ (chars : List RxChar) (f : Frame) (a : Attempt) (r : Request) (rest : List Request) (joiner : Nat) (base : Word)
    (index : Nat) (data : List Byte) (img : Image) (s : State), s.inReset = false → receive chars = .passed f →
    s.table = none → s.mc.phase = .syncing →
    let failed := fun (t : State) =>
      (s.tu.attempt < 2 →
        t.tu.joiner = .asking ∧ t.tu.attempt = s.tu.attempt + 1 ∧ t.tu.catchUp = [] ∧ t.tu.pieces = [] ∧
        t.tu.sync = none ∧ t.mc = s.mc ∧ t.table = none ∧ t.hp = s.hp ∧
        (has .syncreq t.lif.queue = true ∨ t.tu.syncreqHeld = true)) ∧
      (2 ≤ s.tu.attempt →
        t.mc.phase = .fault ∧ t.mc.cause = .syncFailed ∧ t.LevelsAtZero ∧ t.AtRest ∧
        t.hp = s.hp.post .phase s.num.val 8 0x0F)
    (s.tu.joiner = .asking → s.lif.line = .sending a → a.senderByteEnded = true → s.lif.queue = r :: rest →
      chars = cleanChars a.bytes → f.body.kind = .syncreq → s.lif.waiting = .none →
      Completes (exec (.frameReceived chars false) s) fun t =>
        t.tu = { s.tu with
          joiner := .collecting, sync := some { length := 3 * s.inUse.tPresence * 1000, run := 0 } } ∧
        t.mc = s.mc ∧ t.table = none ∧ t.hp = s.hp ∧ t.lif.queue = rest) ∧
    (s.lif.line.isSending = false → s.tu.joiner = .asking →
      Completes (exec (.frameReceived chars false) s) fun t => t.tu = s.tu ∧ t.mc = s.mc ∧ t.table = none) ∧
    (s.lif.line.isSending = false → s.tu.joiner = .collecting →
      let marked := s.tu.catchUp ++ [{ sender := f.sender, kind := .snapshot, body := none }]
      let kept : Bool := decide (joiner = s.num.val ∧ base = f.order - BitVec.ofNat 16 s.tu.catchUp.length ∧
        ((s.tu.pieces = [] ∧ index = 0) ∨ (s.tu.pieces ≠ [] ∧ s.tu.responder = some f.sender ∧
          s.tu.base = some base ∧ index = s.tu.pieces.length)))
      (s.tu.catchUp.length < 24 → f.body.kind ≠ .snapshot →
        Completes (exec (.frameReceived chars false) s) fun t =>
          t.tu = { s.tu with
            catchUp := s.tu.catchUp ++ [{ sender := f.sender, kind := f.body.kind, body := some f.body }] } ∧
          t.mc = s.mc ∧ t.table = none) ∧
      (s.tu.catchUp.length < 24 → f.body = .snapshot joiner base index data → kept = false ∨ s.tu.pieces.length < 4 →
        Completes (exec (.frameReceived chars false) s) fun t =>
          t.tu.catchUp = marked ∧ t.tu.joiner = .collecting ∧ t.mc = s.mc ∧ t.table = none ∧
          t.tu.pieces = (if kept then s.tu.pieces ++ [data] else s.tu.pieces) ∧
          (kept = true → s.tu.pieces = [] →
            t.tu.anchor = some base ∧ t.tu.responder = some f.sender ∧ t.tu.base = some base)) ∧
      (s.tu.catchUp.length < 24 → f.body = .snapshot joiner base index data → kept = true → s.tu.pieces.length = 4 →
        Completes (exec (.frameReceived chars false) s) fun t =>
          (assemble (s.tu.pieces ++ [data]) = some img →
            t.table = some (marked.foldl
              (fun (tb : Table) rec =>
                match rec.body with
                | some b => (tb.apply rec.sender b).1
                | none => { tb with n := tb.n + 1 })
              { image := img, n := base, digest := img.crc }) ∧
            t.mc.phase = .joining ∧ t.mc.cause = .installed ∧ t.hp = s.hp.post .phase s.num.val 4 0x08 ∧
            t.lif.kept = none ∧
            t.tu = { s.tu with
              joiner := .idle, sync := none, catchUp := [], pieces := [], anchor := none, responder := none
              base := none } ∧
            (t.lif.queue.any (fun q => q.body.kind == .join) = true ∨
              .join s.inUse.floor s.inUse.pool s.inUse.tPresence ∈ t.mc.held ∨
              s.mc.held.any (fun b => b.kind == .join) = true)) ∧
          (assemble (s.tu.pieces ++ [data]) = none → failed t)) ∧
      (24 ≤ s.tu.catchUp.length → Completes (exec (.frameReceived chars false) s) failed))

/-! ## Claims, releases and recall (chapter 2) -/

/-- The split and the outcome of a CLAIM (R31 to R36), by the cases of R36: the image after it and every part of its outcome.
The recall assigned where a record was appended is RecallAssignedBySurplus. -/
def Obligations.ClaimDividesDelta : Prop :=
  ∀ (img : Image) (k : Station) (delta : Nat), img.isPresent k = true → 1 ≤ delta → delta ≤ 4000 →
    let e := img.entries[k]
    let g := min delta (e.floor - e.holding)
    let grant := fun (a : Nat) => img.setEntry k { e with holding := e.holding + a }
    let queue := fun (i : Image) (n : Nat) =>
      ({ i with wait := i.wait ++ [{ station := k, shortfall := n }] } : Image).assignRecall k
    let outcome := fun (a q : Nat) (r : Option ClaimReason) (assigned : List (Station × Nat)) =>
      Effect.claimed
        { delta := delta, granted := a, guaranteed := min g a, surplus := a - min g a, queued := q,
          refused := delta - a - q, reason := r, assigned := assigned }
    (img.waits k = true → img.apply k (.claim delta) = (img, outcome 0 0 (some .alreadyWaiting) [])) ∧
    (img.waits k = false → 0 < e.recallDue → e.recallDue ≤ e.holding - e.floor →
      img.apply k (.claim delta) = (img, outcome 0 0 (some .debtor) [])) ∧
    (img.wait = [] → e.recallDue = 0 → delta ≤ img.freeUnits →
      img.apply k (.claim delta) = (grant delta, outcome delta 0 none [])) ∧
    (img.wait = [] → e.recallDue = 0 → g ≤ img.freeUnits → img.freeUnits < delta →
      img.apply k (.claim delta) = (grant img.freeUnits, outcome img.freeUnits 0 (some .poolShort) [])) ∧
    (img.wait = [] → e.recallDue = 0 → img.freeUnits < g →
      img.apply k (.claim delta) =
        let r := queue (grant img.freeUnits) (g - img.freeUnits)
        (r.1, outcome img.freeUnits (g - img.freeUnits) (if g < delta then some .poolShort else none) r.2)) ∧
    (img.wait ≠ [] → img.waits k = false → e.recallDue = 0 → 0 < g →
      img.apply k (.claim delta) =
        let r := queue img g
        (r.1, outcome 0 g (if g < delta then some .listNotEmpty else none) r.2)) ∧
    (img.wait ≠ [] → img.waits k = false → e.recallDue = 0 → g = 0 →
      img.apply k (.claim delta) = (img, outcome 0 0 (some .listNotEmpty) []))

/-- Recall assignment (R37 to R39): the need is what is waited for and not yet owed; only PRESENT entries other than the
claimant's, with a surplus over floor and debt, are assigned, none more than that surplus; as much of the need as the
surpluses cover; and an entry gets nothing until every entry with a larger surplus, or an equal one and a higher number,
has been assigned its whole surplus. Nothing else changes, and the outcome lists each assignment once. -/
def Obligations.RecallAssignedBySurplus : Prop :=
  ∀ (img : Image) (k : Station),
    let r := img.assignRecall k
    let surplus := fun (j : Station) => img.entries[j].holding - img.entries[j].floor - img.entries[j].recallDue
    let units := fun (j : Station) => r.1.entries[j].recallDue - img.entries[j].recallDue
    let need := (img.wait.map (·.shortfall)).sum - (stations.map (fun j => img.entries[j].recallDue)).sum
    let candidate := fun (j : Station) => j ≠ k ∧ img.entries[j].state = .present
    r.1.pool = img.pool ∧ r.1.wait = img.wait ∧
    (∀ j : Station, r.1.entries[j] =
      { img.entries[j] with recallDue := img.entries[j].recallDue + units j }) ∧
    (∀ j : Station, 0 < units j → candidate j ∧ units j ≤ surplus j) ∧
    (stations.map units).sum = min need ((stations.filter (fun j => candidate j)).map surplus).sum ∧
    (∀ i j : Station, candidate i → (surplus j < surplus i ∨ (surplus i = surplus j ∧ j < i)) → 0 < units j →
      units i = surplus i) ∧
    (r.2.map (·.1)).Nodup ∧ ∀ (j : Station) (n : Nat), (j, n) ∈ r.2 ↔ 0 < units j ∧ n = units j

/-- RELEASE and serving (R41 to R44, R46): the amount is cut to the holding, the debt is settled first, and the units
released go to the records from the head, each record given what it lacks of the units still left; a record served whole is
removed and the others keep their order; what is left over becomes free, and no unit is lost or made. -/
def Obligations.ReleaseServesWaitList : Prop :=
  ∀ (img : Image) (k : Station) (amount : Nat), img.Lawful → img.isPresent k = true → 1 ≤ amount → amount ≤ 4000 →
    let e := img.entries[k]
    let x := min amount e.holding
    let given := fun (i : Nat) (w : WaitRecord) => min w.shortfall (x - ((img.wait.take i).map (·.shortfall)).sum)
    let served := (img.wait.mapIdx (fun i w =>
      ({ station := w.station, units := given i w, removed := given i w = w.shortfall } : Service))).filter
        (fun v => 0 < v.units)
    let after := (img.apply k (.release amount)).1
    (img.apply k (.release amount)).2 =
      .released
        { amount := amount, released := x, before := e.recallDue, after := e.recallDue - x
          served := { services := served, wait := after.wait, left := x - (img.wait.map (·.shortfall)).sum } } ∧
    after.pool = img.pool ∧
    after.wait = (img.wait.mapIdx (fun i w =>
      { w with shortfall := w.shortfall - given i w })).filter (fun w => 0 < w.shortfall) ∧
    (∀ j : Station, after.entries[j] =
      let b := if j = k then { e with holding := e.holding - x, recallDue := e.recallDue - x } else img.entries[j]
      { b with holding := b.holding + ((served.filter (fun v => v.station = j)).map (·.units)).sum }) ∧
    after.freeUnits = img.freeUnits + (x - (img.wait.map (·.shortfall)).sum)

/-! ## Membership effects (chapter 3) -/

/-- The JOIN effect (R1, R5, R74). -/
def Obligations.JoinEffect : Prop :=
  ∀ (img : Image) (k : Station) (floor pool interval : Nat),
    floor ≤ 4000 → 1 ≤ pool → pool ≤ 4000 → 10 ≤ interval → interval ≤ 1000 → interval % 10 = 0 →
    let body : Body := .join floor pool interval
    let p : PoolRecord := { pool := pool, interval := interval }
    let set := { img with pool := some p }
    let granted := min floor (pool - img.sumOver (fun e => if e.state = .absent then 0 else e.floor))
    (img.pool.isSome = true → img.pool ≠ some p → img.apply k body = (img, .joinRefused .poolMismatch)) ∧
    (img.pool = none ∨ img.pool = some p → img.entries[k].state = .present →
      img.apply k body = (set, .joinRefused .duplicate)) ∧
    (img.pool = none ∨ img.pool = some p → img.entries[k].state = .lapsed →
      img.apply k body = (set, .joinRefused .lapsed)) ∧
    (img.pool = none ∨ img.pool = some p → img.entries[k].state = .absent →
      img.apply k body =
        (set.setEntry k { state := .present, floor := granted, holding := 0, recallDue := 0 }, .joined floor granted))

/-- The LEAVE, LAPSE and FREE effects (R45, R75 to R77): LEAVE removes the leaver's record and empties its entry, FREE
empties a LAPSED entry, and the units they held are served and the rest becomes free; LAPSE removes the target's record and
debt and keeps its floor and holding; a target in another state is left as it is. -/
def Obligations.MembershipEndsEffects : Prop :=
  ∀ (img : Image) (k t : Station) (cause : Nat), img.Lawful → cause = 1 ∨ cause = 2 →
    let without := fun (j : Station) => img.wait.filter (fun w => w.station ≠ j)
    let emptied := fun (j : Station) (after : Image) (v : Served) =>
      after.pool = img.pool ∧ after.entries[j] = Entry.empty ∧ after.wait = v.wait ∧
        (v.services.map (·.units)).sum + v.left = img.entries[j].holding ∧
        v = serveList img.entries[j].holding (without j) ∧
        (∀ i : Station, i ≠ j → after.entries[i] =
          { img.entries[i] with
            holding := img.entries[i].holding +
              ((v.services.filter (fun a => a.station = i)).map (·.units)).sum }) ∧
        after.freeUnits = img.freeUnits + v.left
    (img.entries[k].state ≠ .absent → ∃ v,
      (img.apply k .leave).2 = .left img.entries[k].state img.entries[k].holding v ∧
        emptied k (img.apply k .leave).1 v) ∧
    (img.isPresent k = true → img.isPresent t = true →
      img.apply k (.lapse t.val cause) =
        ({ img with wait := without t }.setEntry t { img.entries[t] with state := .lapsed, recallDue := 0 },
          .lapsed t img.entries[t].holding cause)) ∧
    (img.isPresent k = true → img.isPresent t = false → img.apply k (.lapse t.val cause) = (img, .notPresent)) ∧
    (img.isPresent k = true → img.entries[t].state = .lapsed → ∃ v,
      (img.apply k (.free t.val)).2 = .freed t img.entries[t].holding v ∧ emptied t (img.apply k (.free t.val)).1 v) ∧
    (img.isPresent k = true → img.entries[t].state ≠ .lapsed → img.apply k (.free t.val) = (img, .notLapsed))

/-- Which frames have an effect on the content of a copy (R22, R23, R24, R99): none from a sender whose entry does not allow
the kind, none with a field out of range, none of the kinds PRESENT, SNAPSHOT and SYNCREQ; a SYNCREQ selects the PRESENT
station at the place of its attempt number among them, or no responder, with reason POOL_MISMATCH on another pool and
NONE_PRESENT when none is PRESENT. Where both the sender and the range forbid the effect, the outcome is that of the sender
(log 40). -/
def Obligations.EffectBySenderAndRange : Prop :=
  ∀ (img : Image) (k : Station) (b : Body),
    (img.entries[k].state = .absent → b.kind ∈ ([.leave, .claim, .release, .lapse, .free] : List FrameKind) →
      img.apply k b = (img, .noSender)) ∧
    (img.entries[k].state = .lapsed → b.kind ∈ ([.claim, .release, .lapse, .free] : List FrameKind) →
      img.apply k b = (img, .noSender)) ∧
    ((∀ floor pool interval, b = .join floor pool interval →
        4000 < floor ∨ pool = 0 ∨ 4000 < pool ∨ interval < 10 ∨ 1000 < interval ∨ interval % 10 ≠ 0 →
        img.apply k b = (img, .noRange)) ∧
      (∀ n, b = .claim n ∨ b = .release n → n = 0 ∨ 4000 < n → img.isPresent k = true →
        img.apply k b = (img, .noRange)) ∧
      (∀ target cause, b = .lapse target cause → 32 ≤ target ∨ (cause ≠ 1 ∧ cause ≠ 2) → img.isPresent k = true →
        img.apply k b = (img, .noRange)) ∧
      (∀ target, b = .free target → 32 ≤ target → img.isPresent k = true → img.apply k b = (img, .noRange)) ∧
      (∀ attempt pool, b = .syncreq attempt pool → 2 < attempt ∨ pool = 0 ∨ 4000 < pool →
        img.apply k b = (img, .noRange)) ∧
      (∀ joiner base index data, b = .snapshot joiner base index data → 32 ≤ joiner ∨ 4 < index →
        img.apply k b = (img, .noRange))) ∧
    (b = .present → img.apply k b = (img, .noTable)) ∧
    (∀ joiner base index data, b = .snapshot joiner base index data → joiner < 32 → index ≤ 4 →
      img.apply k b = (img, .noTable)) ∧
    (∀ attempt pool, b = .syncreq attempt pool → attempt ≤ 2 → 1 ≤ pool → pool ≤ 4000 →
      let present : List Station := stations.filter (fun j => img.entries[j].state = .present)
      (img.pool.map (·.pool) ≠ some pool → img.apply k b = (img, .selected .poolMismatch)) ∧
      (img.pool.map (·.pool) = some pool → present = [] → img.apply k b = (img, .selected .nonePresent)) ∧
      (∀ j : Station, img.pool.map (·.pool) = some pool → present[attempt % present.length]? = some j →
        img.apply k b = (img, .selected (.station j))))

/-! ## Encodings (chapter 7) -/

/-- Encoder and receiver agree on line frames (R13, R128, R130, R153): what a station sends of a frame passes the receive
checks as that frame, and whatever passes them is the encoding of the frame it passes as. -/
def Obligations.FrameSurvivesLine : Prop :=
  (∀ f : Frame, f.body.fits = true → receive (cleanChars (encodeFrame f)) = .passed f) ∧
    ∀ (chars : List RxChar) (f : Frame), receive chars = .passed f →
      f.body.fits = true ∧ chars = cleanChars (encodeFrame f)

/-- A table image survives its five pieces (R102, R107, R108, R155): each piece carries 64 bytes of data, and the five give
the image back, its pool record, entries and wait list in order. -/
def Obligations.ImageSurvivesPieces : Prop :=
  ∀ img : Image, img.Lawful → img.pool.isSome = true →
    (∀ index : Nat, index ≤ 4 → (pieceData img img.crc index).length = 64) ∧
      assemble ((List.range 5).map (pieceData img img.crc)) = some img

/-! ## Invariants -/

/-- The invariants below hold at reset, where no table is held. -/
def Obligations.InvariantsHoldAtReset : Prop :=
  (∀ t, State.reset.table = some t → t.image.Lawful ∧ t.digest = t.image.crc) ∧ State.reset.lif.Orderly ∧
    State.reset.Bounded ∧ State.reset.PhaseLaw ∧ State.reset.BudgetLaw ∧ State.reset.RequestLaw ∧ State.reset.LevelLaw

/-- The laws of the table hold after every step that began with them and did not install a transferred image (R1, R4, R5,
R7 to R11, R18), and the digest is current after every step (R14, R20, R21). -/
def Obligations.EveryStepKeepsTableLaws : Prop :=
  ∀ s t : State, step s = .next t →
    ((s.table.isSome = true ∨ s.mc.phase ≠ .syncing) → (∀ tb, s.table = some tb → tb.image.Lawful) →
      ∀ tb, t.table = some tb → tb.image.Lawful) ∧
    ((∀ tb, s.table = some tb → tb.digest = tb.image.crc) → ∀ tb, t.table = some tb → tb.digest = tb.image.crc)

/-- OQ stays in order and every buffer and count in its range after every step (R93, R103, R105, R107, R112, R134, R143,
R145, R177, R192, R207); the values in use stay valid (R204, R205) and the period counter below the period (R182, R183). -/
def Obligations.EveryStepKeepsQueuesInBounds : Prop :=
  ∀ s t : State, s.lif.Orderly → s.Bounded → step s = .next t → t.lif.Orderly ∧ t.Bounded

/-- What the phase decides stays as the phase has it after every step (R15, R47, R62, R96, R101, R116, R167, R169); by
deduction the rejoin timer may run in FOUNDING (log 54), a hold-off in LEAVING (log 56), and a stop pend in SYNCING (log 31).
-/
def Obligations.EveryStepKeepsPhaseLaw : Prop :=
  ∀ s t : State, s.PhaseLaw → step s = .next t → t.PhaseLaw

/-- D, C and the staged levels are those of R160 to R162 after every step: BA forms them again after every change of what
they are formed from. And the applied levels stay within the own holding in JOINED and LEAVING and are 0 in every other
phase (R163), each within its rating and 0 while FAULTED (R187), with what their proof needs: the own entry PRESENT (R90), a
RELEASE on the line binding BA (R171), and where the JOIN and the LEAVE stand in OQ (R71 to R73, R86). The premises PhaseLaw
and Orderly are the invariants of EveryStepKeepsPhaseLaw and EveryStepKeepsQueuesInBounds. -/
def Obligations.EveryStepKeepsBudgetLaw : Prop :=
  ∀ s t : State, s.PhaseLaw → s.BudgetLaw → step s = .next t →
    t.BudgetLaw ∧ (s.lif.Orderly → s.RequestLaw → s.LevelLaw → t.RequestLaw ∧ t.LevelLaw)
end

