-- ==== Sys2Proof/Laws/Queue.lean ====
section
/-! SUPPORT. What OQ's operations can change: the requests and the waiting marks, and nothing else of LIF. -/

namespace Sys2Proof.Machine

/-- A request changes only the requests and the waiting marks. -/
theorem Lif.request_rest (lif : Lif) (body : Body) (b : Block) :
    { (lif.request body b).1 with queue := lif.queue, waiting := lif.waiting } = lif := by
  unfold Lif.request; split
  · split <;> rfl
  · split <;> rfl

/-- A withdrawal changes only the requests. -/
theorem Lif.withdraw_rest (lif : Lif) (body : Body) (b : Block) :
    { (lif.withdraw body b).1 with queue := lif.queue } = lif := by
  unfold Lif.withdraw; split
  · rfl
  · split
    · split
      · rfl
      · split <;> rfl
    · rfl

/-- A refused request leaves the requests as they are and marks the block. -/
theorem Lif.request_refused (lif : Lif) (body : Body) (b : Block) (h : (lif.request body b).2 = .refused) :
    (lif.request body b).1 = { lif with waiting := lif.waiting.union (.only b) } := by
  revert h
  unfold Lif.request
  split
  · split
    · split <;> intro h <;> cases h
    · intro _; rfl
  · split
    · intro h; cases h
    · intro _; rfl

/-- OQ never holds more than its capacity after a request, if it did not before. -/
theorem Lif.request_length (lif : Lif) (body : Body) (b : Block) (h : lif.queue.length ≤ queueCapacity) :
    (lif.request body b).1.queue.length ≤ queueCapacity := by
  unfold Lif.request; split
  · split <;> simpa using h
  · split <;> simp_all

/-- The discard of a request that stays on the line changes its held withdrawals alone. -/
theorem Request.discard_rest (r : Request) : { r.discard with heldWithdrawals := r.heldWithdrawals } = r := by
  unfold Request.discard; split <;> rfl
@[simp] theorem Request.discard_body (r : Request) : r.discard.body = r.body := by
  have h := congrArg Request.body r.discard_rest; exact h
@[simp] theorem Request.discard_requesters (r : Request) : r.discard.requesters = r.requesters := by
  have h := congrArg Request.requesters r.discard_rest; exact h
@[simp] theorem Request.discard_inTransmission (r : Request) : r.discard.inTransmission = r.inTransmission := by
  have h := congrArg Request.inTransmission r.discard_rest; exact h
@[simp] theorem Blocks.diff_self_isEmpty (b : Blocks) : (b.diff b).isEmpty = true := by
  simp [Blocks.diff, Blocks.isEmpty]

/-- The discards of the phase entries change only the requests and the waiting marks. -/
theorem Lif.discardUnstarted_rest (lif : Lif) :
    { lif.discardUnstarted with queue := lif.queue, waiting := lif.waiting } = lif := rfl
theorem Lif.discardIdle_rest (lif : Lif) :
    { lif.discardIdle with queue := lif.queue, waiting := lif.waiting } = lif := by
  unfold Lif.discardIdle; split <;> rfl

@[simp] theorem Lif.request_line (lif : Lif) (body : Body) (b : Block) : (lif.request body b).1.line = lif.line := by
  have h := congrArg Lif.line (Lif.request_rest lif body b); exact h
@[simp] theorem Lif.request_kept (lif : Lif) (body : Body) (b : Block) : (lif.request body b).1.kept = lif.kept := by
  have h := congrArg Lif.kept (Lif.request_rest lif body b); exact h
@[simp] theorem Lif.request_lastSender (lif : Lif) (body : Body) (b : Block) :
    (lif.request body b).1.lastSender = lif.lastSender := by
  have h := congrArg Lif.lastSender (Lif.request_rest lif body b); exact h
@[simp] theorem Lif.request_selfObjection (lif : Lif) (body : Body) (b : Block) :
    (lif.request body b).1.selfObjection = lif.selfObjection := by
  have h := congrArg Lif.selfObjection (Lif.request_rest lif body b); exact h
@[simp] theorem Lif.request_lineFaultOut (lif : Lif) (body : Body) (b : Block) :
    (lif.request body b).1.lineFaultOut = lif.lineFaultOut := by
  have h := congrArg Lif.lineFaultOut (Lif.request_rest lif body b); exact h
@[simp] theorem Lif.withdraw_line (lif : Lif) (body : Body) (b : Block) : (lif.withdraw body b).1.line = lif.line := by
  have h := congrArg Lif.line (Lif.withdraw_rest lif body b); exact h
@[simp] theorem Lif.withdraw_waiting (lif : Lif) (body : Body) (b : Block) :
    (lif.withdraw body b).1.waiting = lif.waiting := by
  have h := congrArg Lif.waiting (Lif.withdraw_rest lif body b); exact h
@[simp] theorem Lif.withdraw_kept (lif : Lif) (body : Body) (b : Block) : (lif.withdraw body b).1.kept = lif.kept := by
  have h := congrArg Lif.kept (Lif.withdraw_rest lif body b); exact h

end Sys2Proof.Machine
end

