-- ==== Sys2Proof/Laws/State.lean ====
section
/-! SUPPORT. The fields of State under each plain update of the model: which stay, and what the others become. -/

namespace Sys2Proof.Machine

/-! ## Fields that an update leaves -/

@[simp] theorem post_num (k : EventKind) (n a c : Nat) (s : State) : (post k n a c s).num = s.num := rfl
@[simp] theorem post_rate (k : EventKind) (n a c : Nat) (s : State) : (post k n a c s).rate = s.rate := rfl
@[simp] theorem post_inReset (k : EventKind) (n a c : Nat) (s : State) : (post k n a c s).inReset = s.inReset := rfl
@[simp] theorem post_inUse (k : EventKind) (n a c : Nat) (s : State) : (post k n a c s).inUse = s.inUse := rfl
@[simp] theorem post_table (k : EventKind) (n a c : Nat) (s : State) : (post k n a c s).table = s.table := rfl
@[simp] theorem post_watches (k : EventKind) (n a c : Nat) (s : State) : (post k n a c s).watches = s.watches := rfl
@[simp] theorem post_mc (k : EventKind) (n a c : Nat) (s : State) : (post k n a c s).mc = s.mc := rfl
@[simp] theorem post_tu (k : EventKind) (n a c : Nat) (s : State) : (post k n a c s).tu = s.tu := rfl
@[simp] theorem post_ac (k : EventKind) (n a c : Nat) (s : State) : (post k n a c s).ac = s.ac := rfl
@[simp] theorem post_lif (k : EventKind) (n a c : Nat) (s : State) : (post k n a c s).lif = s.lif := rfl
@[simp] theorem post_ba (k : EventKind) (n a c : Nat) (s : State) : (post k n a c s).ba = s.ba := rfl
@[simp] theorem post_tm (k : EventKind) (n a c : Nat) (s : State) : (post k n a c s).tm = s.tm := rfl
@[simp] theorem post_co (k : EventKind) (n a c : Nat) (s : State) : (post k n a c s).co = s.co := rfl
@[simp] theorem post_free (k : EventKind) (n a c : Nat) (s : State) : (post k n a c s).free = s.free := rfl
@[simp] theorem post_pending (k : EventKind) (n a c : Nat) (s : State) : (post k n a c s).pending = s.pending := rfl

@[simp] theorem postOwn_num (k : EventKind) (a c : Nat) (s : State) : (postOwn k a c s).num = s.num := rfl
@[simp] theorem postOwn_rate (k : EventKind) (a c : Nat) (s : State) : (postOwn k a c s).rate = s.rate := rfl
@[simp] theorem postOwn_inReset (k : EventKind) (a c : Nat) (s : State) : (postOwn k a c s).inReset = s.inReset := rfl
@[simp] theorem postOwn_inUse (k : EventKind) (a c : Nat) (s : State) : (postOwn k a c s).inUse = s.inUse := rfl
@[simp] theorem postOwn_table (k : EventKind) (a c : Nat) (s : State) : (postOwn k a c s).table = s.table := rfl
@[simp] theorem postOwn_watches (k : EventKind) (a c : Nat) (s : State) : (postOwn k a c s).watches = s.watches := rfl
@[simp] theorem postOwn_mc (k : EventKind) (a c : Nat) (s : State) : (postOwn k a c s).mc = s.mc := rfl
@[simp] theorem postOwn_tu (k : EventKind) (a c : Nat) (s : State) : (postOwn k a c s).tu = s.tu := rfl
@[simp] theorem postOwn_ac (k : EventKind) (a c : Nat) (s : State) : (postOwn k a c s).ac = s.ac := rfl
@[simp] theorem postOwn_lif (k : EventKind) (a c : Nat) (s : State) : (postOwn k a c s).lif = s.lif := rfl
@[simp] theorem postOwn_ba (k : EventKind) (a c : Nat) (s : State) : (postOwn k a c s).ba = s.ba := rfl
@[simp] theorem postOwn_tm (k : EventKind) (a c : Nat) (s : State) : (postOwn k a c s).tm = s.tm := rfl
@[simp] theorem postOwn_co (k : EventKind) (a c : Nat) (s : State) : (postOwn k a c s).co = s.co := rfl
@[simp] theorem postOwn_free (k : EventKind) (a c : Nat) (s : State) : (postOwn k a c s).free = s.free := rfl
@[simp] theorem postOwn_pending (k : EventKind) (a c : Nat) (s : State) : (postOwn k a c s).pending = s.pending := rfl

@[simp] theorem setWatch_num (k : Station) (w : Watch) (s : State) : (setWatch k w s).num = s.num := rfl
@[simp] theorem setWatch_rate (k : Station) (w : Watch) (s : State) : (setWatch k w s).rate = s.rate := rfl
@[simp] theorem setWatch_inReset (k : Station) (w : Watch) (s : State) : (setWatch k w s).inReset = s.inReset := rfl
@[simp] theorem setWatch_inUse (k : Station) (w : Watch) (s : State) : (setWatch k w s).inUse = s.inUse := rfl
@[simp] theorem setWatch_table (k : Station) (w : Watch) (s : State) : (setWatch k w s).table = s.table := rfl
@[simp] theorem setWatch_mc (k : Station) (w : Watch) (s : State) : (setWatch k w s).mc = s.mc := rfl
@[simp] theorem setWatch_tu (k : Station) (w : Watch) (s : State) : (setWatch k w s).tu = s.tu := rfl
@[simp] theorem setWatch_ac (k : Station) (w : Watch) (s : State) : (setWatch k w s).ac = s.ac := rfl
@[simp] theorem setWatch_lif (k : Station) (w : Watch) (s : State) : (setWatch k w s).lif = s.lif := rfl
@[simp] theorem setWatch_ba (k : Station) (w : Watch) (s : State) : (setWatch k w s).ba = s.ba := rfl
@[simp] theorem setWatch_tm (k : Station) (w : Watch) (s : State) : (setWatch k w s).tm = s.tm := rfl
@[simp] theorem setWatch_co (k : Station) (w : Watch) (s : State) : (setWatch k w s).co = s.co := rfl
@[simp] theorem setWatch_hp (k : Station) (w : Watch) (s : State) : (setWatch k w s).hp = s.hp := rfl
@[simp] theorem setWatch_free (k : Station) (w : Watch) (s : State) : (setWatch k w s).free = s.free := rfl
@[simp] theorem setWatch_pending (k : Station) (w : Watch) (s : State) : (setWatch k w s).pending = s.pending := rfl

@[simp] theorem formDemand_num (s : State) : (formDemand s).num = s.num := rfl
@[simp] theorem formDemand_rate (s : State) : (formDemand s).rate = s.rate := rfl
@[simp] theorem formDemand_inReset (s : State) : (formDemand s).inReset = s.inReset := rfl
@[simp] theorem formDemand_inUse (s : State) : (formDemand s).inUse = s.inUse := rfl
@[simp] theorem formDemand_table (s : State) : (formDemand s).table = s.table := rfl
@[simp] theorem formDemand_watches (s : State) : (formDemand s).watches = s.watches := rfl
@[simp] theorem formDemand_mc (s : State) : (formDemand s).mc = s.mc := rfl
@[simp] theorem formDemand_tu (s : State) : (formDemand s).tu = s.tu := rfl
@[simp] theorem formDemand_ac (s : State) : (formDemand s).ac = s.ac := rfl
@[simp] theorem formDemand_lif (s : State) : (formDemand s).lif = s.lif := rfl
@[simp] theorem formDemand_tm (s : State) : (formDemand s).tm = s.tm := rfl
@[simp] theorem formDemand_co (s : State) : (formDemand s).co = s.co := rfl
@[simp] theorem formDemand_hp (s : State) : (formDemand s).hp = s.hp := rfl
@[simp] theorem formDemand_free (s : State) : (formDemand s).free = s.free := rfl
@[simp] theorem formDemand_pending (s : State) : (formDemand s).pending = s.pending := rfl

@[simp] theorem formCap_num (s : State) : (formCap s).num = s.num := rfl
@[simp] theorem formCap_rate (s : State) : (formCap s).rate = s.rate := rfl
@[simp] theorem formCap_inReset (s : State) : (formCap s).inReset = s.inReset := rfl
@[simp] theorem formCap_inUse (s : State) : (formCap s).inUse = s.inUse := rfl
@[simp] theorem formCap_table (s : State) : (formCap s).table = s.table := rfl
@[simp] theorem formCap_watches (s : State) : (formCap s).watches = s.watches := rfl
@[simp] theorem formCap_mc (s : State) : (formCap s).mc = s.mc := rfl
@[simp] theorem formCap_tu (s : State) : (formCap s).tu = s.tu := rfl
@[simp] theorem formCap_ac (s : State) : (formCap s).ac = s.ac := rfl
@[simp] theorem formCap_lif (s : State) : (formCap s).lif = s.lif := rfl
@[simp] theorem formCap_tm (s : State) : (formCap s).tm = s.tm := rfl
@[simp] theorem formCap_co (s : State) : (formCap s).co = s.co := rfl
@[simp] theorem formCap_hp (s : State) : (formCap s).hp = s.hp := rfl
@[simp] theorem formCap_free (s : State) : (formCap s).free = s.free := rfl
@[simp] theorem formCap_pending (s : State) : (formCap s).pending = s.pending := rfl

@[simp] theorem stage_num (s : State) : (stage s).num = s.num := rfl
@[simp] theorem stage_rate (s : State) : (stage s).rate = s.rate := rfl
@[simp] theorem stage_inReset (s : State) : (stage s).inReset = s.inReset := rfl
@[simp] theorem stage_inUse (s : State) : (stage s).inUse = s.inUse := rfl
@[simp] theorem stage_table (s : State) : (stage s).table = s.table := rfl
@[simp] theorem stage_watches (s : State) : (stage s).watches = s.watches := rfl
@[simp] theorem stage_mc (s : State) : (stage s).mc = s.mc := rfl
@[simp] theorem stage_tu (s : State) : (stage s).tu = s.tu := rfl
@[simp] theorem stage_ac (s : State) : (stage s).ac = s.ac := rfl
@[simp] theorem stage_lif (s : State) : (stage s).lif = s.lif := rfl
@[simp] theorem stage_ba (s : State) : (stage s).ba = s.ba := rfl
@[simp] theorem stage_tm (s : State) : (stage s).tm = s.tm := rfl
@[simp] theorem stage_hp (s : State) : (stage s).hp = s.hp := rfl
@[simp] theorem stage_free (s : State) : (stage s).free = s.free := rfl
@[simp] theorem stage_pending (s : State) : (stage s).pending = s.pending := rfl

@[simp] theorem forceZeroAll_num (s : State) : (forceZeroAll s).num = s.num := rfl
@[simp] theorem forceZeroAll_rate (s : State) : (forceZeroAll s).rate = s.rate := rfl
@[simp] theorem forceZeroAll_inReset (s : State) : (forceZeroAll s).inReset = s.inReset := rfl
@[simp] theorem forceZeroAll_inUse (s : State) : (forceZeroAll s).inUse = s.inUse := rfl
@[simp] theorem forceZeroAll_table (s : State) : (forceZeroAll s).table = s.table := rfl
@[simp] theorem forceZeroAll_watches (s : State) : (forceZeroAll s).watches = s.watches := rfl
@[simp] theorem forceZeroAll_mc (s : State) : (forceZeroAll s).mc = s.mc := rfl
@[simp] theorem forceZeroAll_tu (s : State) : (forceZeroAll s).tu = s.tu := rfl
@[simp] theorem forceZeroAll_ac (s : State) : (forceZeroAll s).ac = s.ac := rfl
@[simp] theorem forceZeroAll_lif (s : State) : (forceZeroAll s).lif = s.lif := rfl
@[simp] theorem forceZeroAll_ba (s : State) : (forceZeroAll s).ba = s.ba := rfl
@[simp] theorem forceZeroAll_tm (s : State) : (forceZeroAll s).tm = s.tm := rfl
@[simp] theorem forceZeroAll_hp (s : State) : (forceZeroAll s).hp = s.hp := rfl
@[simp] theorem forceZeroAll_free (s : State) : (forceZeroAll s).free = s.free := rfl
@[simp] theorem forceZeroAll_pending (s : State) : (forceZeroAll s).pending = s.pending := rfl

@[simp] theorem forceZero_num (c : Channel) (s : State) : (forceZero c s).num = s.num := rfl
@[simp] theorem forceZero_rate (c : Channel) (s : State) : (forceZero c s).rate = s.rate := rfl
@[simp] theorem forceZero_inReset (c : Channel) (s : State) : (forceZero c s).inReset = s.inReset := rfl
@[simp] theorem forceZero_inUse (c : Channel) (s : State) : (forceZero c s).inUse = s.inUse := rfl
@[simp] theorem forceZero_table (c : Channel) (s : State) : (forceZero c s).table = s.table := rfl
@[simp] theorem forceZero_watches (c : Channel) (s : State) : (forceZero c s).watches = s.watches := rfl
@[simp] theorem forceZero_mc (c : Channel) (s : State) : (forceZero c s).mc = s.mc := rfl
@[simp] theorem forceZero_tu (c : Channel) (s : State) : (forceZero c s).tu = s.tu := rfl
@[simp] theorem forceZero_ac (c : Channel) (s : State) : (forceZero c s).ac = s.ac := rfl
@[simp] theorem forceZero_lif (c : Channel) (s : State) : (forceZero c s).lif = s.lif := rfl
@[simp] theorem forceZero_ba (c : Channel) (s : State) : (forceZero c s).ba = s.ba := rfl
@[simp] theorem forceZero_tm (c : Channel) (s : State) : (forceZero c s).tm = s.tm := rfl
@[simp] theorem forceZero_hp (c : Channel) (s : State) : (forceZero c s).hp = s.hp := rfl
@[simp] theorem forceZero_free (c : Channel) (s : State) : (forceZero c s).free = s.free := rfl
@[simp] theorem forceZero_pending (c : Channel) (s : State) : (forceZero c s).pending = s.pending := rfl

@[simp] theorem setPhase_num (p : Phase) (c : Cause) (s : State) : (setPhase p c s).num = s.num := rfl
@[simp] theorem setPhase_rate (p : Phase) (c : Cause) (s : State) : (setPhase p c s).rate = s.rate := rfl
@[simp] theorem setPhase_inReset (p : Phase) (c : Cause) (s : State) : (setPhase p c s).inReset = s.inReset := rfl
@[simp] theorem setPhase_inUse (p : Phase) (c : Cause) (s : State) : (setPhase p c s).inUse = s.inUse := rfl
@[simp] theorem setPhase_table (p : Phase) (c : Cause) (s : State) : (setPhase p c s).table = s.table := rfl
@[simp] theorem setPhase_watches (p : Phase) (c : Cause) (s : State) : (setPhase p c s).watches = s.watches := rfl
@[simp] theorem setPhase_tu (p : Phase) (c : Cause) (s : State) : (setPhase p c s).tu = s.tu := rfl
@[simp] theorem setPhase_ac (p : Phase) (c : Cause) (s : State) : (setPhase p c s).ac = s.ac := rfl
@[simp] theorem setPhase_lif (p : Phase) (c : Cause) (s : State) : (setPhase p c s).lif = s.lif := rfl
@[simp] theorem setPhase_ba (p : Phase) (c : Cause) (s : State) : (setPhase p c s).ba = s.ba := rfl
@[simp] theorem setPhase_tm (p : Phase) (c : Cause) (s : State) : (setPhase p c s).tm = s.tm := rfl
@[simp] theorem setPhase_co (p : Phase) (c : Cause) (s : State) : (setPhase p c s).co = s.co := rfl
@[simp] theorem setPhase_free (p : Phase) (c : Cause) (s : State) : (setPhase p c s).free = s.free := rfl
@[simp] theorem setPhase_pending (p : Phase) (c : Cause) (s : State) : (setPhase p c s).pending = s.pending := rfl

@[simp] theorem postRefusal_num (c : Cause) (s : State) : (postRefusal c s).num = s.num := rfl
@[simp] theorem postRefusal_rate (c : Cause) (s : State) : (postRefusal c s).rate = s.rate := rfl
@[simp] theorem postRefusal_inReset (c : Cause) (s : State) : (postRefusal c s).inReset = s.inReset := rfl
@[simp] theorem postRefusal_inUse (c : Cause) (s : State) : (postRefusal c s).inUse = s.inUse := rfl
@[simp] theorem postRefusal_table (c : Cause) (s : State) : (postRefusal c s).table = s.table := rfl
@[simp] theorem postRefusal_watches (c : Cause) (s : State) : (postRefusal c s).watches = s.watches := rfl
@[simp] theorem postRefusal_mc (c : Cause) (s : State) : (postRefusal c s).mc = s.mc := rfl
@[simp] theorem postRefusal_tu (c : Cause) (s : State) : (postRefusal c s).tu = s.tu := rfl
@[simp] theorem postRefusal_ac (c : Cause) (s : State) : (postRefusal c s).ac = s.ac := rfl
@[simp] theorem postRefusal_lif (c : Cause) (s : State) : (postRefusal c s).lif = s.lif := rfl
@[simp] theorem postRefusal_ba (c : Cause) (s : State) : (postRefusal c s).ba = s.ba := rfl
@[simp] theorem postRefusal_tm (c : Cause) (s : State) : (postRefusal c s).tm = s.tm := rfl
@[simp] theorem postRefusal_co (c : Cause) (s : State) : (postRefusal c s).co = s.co := rfl
@[simp] theorem postRefusal_free (c : Cause) (s : State) : (postRefusal c s).free = s.free := rfl
@[simp] theorem postRefusal_pending (c : Cause) (s : State) : (postRefusal c s).pending = s.pending := rfl

@[simp] theorem startRejoin_num (s : State) : (startRejoin s).num = s.num := rfl
@[simp] theorem startRejoin_rate (s : State) : (startRejoin s).rate = s.rate := rfl
@[simp] theorem startRejoin_inReset (s : State) : (startRejoin s).inReset = s.inReset := rfl
@[simp] theorem startRejoin_inUse (s : State) : (startRejoin s).inUse = s.inUse := rfl
@[simp] theorem startRejoin_table (s : State) : (startRejoin s).table = s.table := rfl
@[simp] theorem startRejoin_watches (s : State) : (startRejoin s).watches = s.watches := rfl
@[simp] theorem startRejoin_tu (s : State) : (startRejoin s).tu = s.tu := rfl
@[simp] theorem startRejoin_ac (s : State) : (startRejoin s).ac = s.ac := rfl
@[simp] theorem startRejoin_lif (s : State) : (startRejoin s).lif = s.lif := rfl
@[simp] theorem startRejoin_ba (s : State) : (startRejoin s).ba = s.ba := rfl
@[simp] theorem startRejoin_tm (s : State) : (startRejoin s).tm = s.tm := rfl
@[simp] theorem startRejoin_co (s : State) : (startRejoin s).co = s.co := rfl
@[simp] theorem startRejoin_hp (s : State) : (startRejoin s).hp = s.hp := rfl
@[simp] theorem startRejoin_free (s : State) : (startRejoin s).free = s.free := rfl
@[simp] theorem startRejoin_pending (s : State) : (startRejoin s).pending = s.pending := rfl

@[simp] theorem answer_num (bs : List Byte) (s : State) : (answer bs s).num = s.num := rfl
@[simp] theorem answer_rate (bs : List Byte) (s : State) : (answer bs s).rate = s.rate := rfl
@[simp] theorem answer_inReset (bs : List Byte) (s : State) : (answer bs s).inReset = s.inReset := rfl
@[simp] theorem answer_inUse (bs : List Byte) (s : State) : (answer bs s).inUse = s.inUse := rfl
@[simp] theorem answer_table (bs : List Byte) (s : State) : (answer bs s).table = s.table := rfl
@[simp] theorem answer_watches (bs : List Byte) (s : State) : (answer bs s).watches = s.watches := rfl
@[simp] theorem answer_mc (bs : List Byte) (s : State) : (answer bs s).mc = s.mc := rfl
@[simp] theorem answer_tu (bs : List Byte) (s : State) : (answer bs s).tu = s.tu := rfl
@[simp] theorem answer_ac (bs : List Byte) (s : State) : (answer bs s).ac = s.ac := rfl
@[simp] theorem answer_lif (bs : List Byte) (s : State) : (answer bs s).lif = s.lif := rfl
@[simp] theorem answer_ba (bs : List Byte) (s : State) : (answer bs s).ba = s.ba := rfl
@[simp] theorem answer_tm (bs : List Byte) (s : State) : (answer bs s).tm = s.tm := rfl
@[simp] theorem answer_co (bs : List Byte) (s : State) : (answer bs s).co = s.co := rfl
@[simp] theorem answer_free (bs : List Byte) (s : State) : (answer bs s).free = s.free := rfl
@[simp] theorem answer_pending (bs : List Byte) (s : State) : (answer bs s).pending = s.pending := rfl

@[simp] theorem setChannelDemand_num (c : Channel) (d : Nat) (s : State) : (setChannelDemand c d s).num = s.num := rfl
@[simp] theorem setChannelDemand_rate (c : Channel) (d : Nat) (s : State) : (setChannelDemand c d s).rate = s.rate := rfl
@[simp] theorem setChannelDemand_inReset (c : Channel) (d : Nat) (s : State) : (setChannelDemand c d s).inReset = s.inReset := rfl
@[simp] theorem setChannelDemand_inUse (c : Channel) (d : Nat) (s : State) : (setChannelDemand c d s).inUse = s.inUse := rfl
@[simp] theorem setChannelDemand_table (c : Channel) (d : Nat) (s : State) : (setChannelDemand c d s).table = s.table := rfl
@[simp] theorem setChannelDemand_watches (c : Channel) (d : Nat) (s : State) : (setChannelDemand c d s).watches = s.watches := rfl
@[simp] theorem setChannelDemand_mc (c : Channel) (d : Nat) (s : State) : (setChannelDemand c d s).mc = s.mc := rfl
@[simp] theorem setChannelDemand_tu (c : Channel) (d : Nat) (s : State) : (setChannelDemand c d s).tu = s.tu := rfl
@[simp] theorem setChannelDemand_ac (c : Channel) (d : Nat) (s : State) : (setChannelDemand c d s).ac = s.ac := rfl
@[simp] theorem setChannelDemand_lif (c : Channel) (d : Nat) (s : State) : (setChannelDemand c d s).lif = s.lif := rfl
@[simp] theorem setChannelDemand_ba (c : Channel) (d : Nat) (s : State) : (setChannelDemand c d s).ba = s.ba := rfl
@[simp] theorem setChannelDemand_tm (c : Channel) (d : Nat) (s : State) : (setChannelDemand c d s).tm = s.tm := rfl
@[simp] theorem setChannelDemand_hp (c : Channel) (d : Nat) (s : State) : (setChannelDemand c d s).hp = s.hp := rfl
@[simp] theorem setChannelDemand_free (c : Channel) (d : Nat) (s : State) : (setChannelDemand c d s).free = s.free := rfl
@[simp] theorem setChannelDemand_pending (c : Channel) (d : Nat) (s : State) : (setChannelDemand c d s).pending = s.pending := rfl

@[simp] theorem markFaulted_num (c : Channel) (b : Bool) (s : State) : (markFaulted c b s).num = s.num := rfl
@[simp] theorem markFaulted_rate (c : Channel) (b : Bool) (s : State) : (markFaulted c b s).rate = s.rate := rfl
@[simp] theorem markFaulted_inReset (c : Channel) (b : Bool) (s : State) : (markFaulted c b s).inReset = s.inReset := rfl
@[simp] theorem markFaulted_inUse (c : Channel) (b : Bool) (s : State) : (markFaulted c b s).inUse = s.inUse := rfl
@[simp] theorem markFaulted_table (c : Channel) (b : Bool) (s : State) : (markFaulted c b s).table = s.table := rfl
@[simp] theorem markFaulted_watches (c : Channel) (b : Bool) (s : State) : (markFaulted c b s).watches = s.watches := rfl
@[simp] theorem markFaulted_mc (c : Channel) (b : Bool) (s : State) : (markFaulted c b s).mc = s.mc := rfl
@[simp] theorem markFaulted_tu (c : Channel) (b : Bool) (s : State) : (markFaulted c b s).tu = s.tu := rfl
@[simp] theorem markFaulted_ac (c : Channel) (b : Bool) (s : State) : (markFaulted c b s).ac = s.ac := rfl
@[simp] theorem markFaulted_lif (c : Channel) (b : Bool) (s : State) : (markFaulted c b s).lif = s.lif := rfl
@[simp] theorem markFaulted_ba (c : Channel) (b : Bool) (s : State) : (markFaulted c b s).ba = s.ba := rfl
@[simp] theorem markFaulted_tm (c : Channel) (b : Bool) (s : State) : (markFaulted c b s).tm = s.tm := rfl
@[simp] theorem markFaulted_hp (c : Channel) (b : Bool) (s : State) : (markFaulted c b s).hp = s.hp := rfl
@[simp] theorem markFaulted_free (c : Channel) (b : Bool) (s : State) : (markFaulted c b s).free = s.free := rfl
@[simp] theorem markFaulted_pending (c : Channel) (b : Bool) (s : State) : (markFaulted c b s).pending = s.pending := rfl

@[simp] theorem setInput_num (c : Channel) (b : Bool) (s : State) : (setInput c b s).num = s.num := rfl
@[simp] theorem setInput_rate (c : Channel) (b : Bool) (s : State) : (setInput c b s).rate = s.rate := rfl
@[simp] theorem setInput_inReset (c : Channel) (b : Bool) (s : State) : (setInput c b s).inReset = s.inReset := rfl
@[simp] theorem setInput_inUse (c : Channel) (b : Bool) (s : State) : (setInput c b s).inUse = s.inUse := rfl
@[simp] theorem setInput_table (c : Channel) (b : Bool) (s : State) : (setInput c b s).table = s.table := rfl
@[simp] theorem setInput_watches (c : Channel) (b : Bool) (s : State) : (setInput c b s).watches = s.watches := rfl
@[simp] theorem setInput_mc (c : Channel) (b : Bool) (s : State) : (setInput c b s).mc = s.mc := rfl
@[simp] theorem setInput_tu (c : Channel) (b : Bool) (s : State) : (setInput c b s).tu = s.tu := rfl
@[simp] theorem setInput_ac (c : Channel) (b : Bool) (s : State) : (setInput c b s).ac = s.ac := rfl
@[simp] theorem setInput_lif (c : Channel) (b : Bool) (s : State) : (setInput c b s).lif = s.lif := rfl
@[simp] theorem setInput_ba (c : Channel) (b : Bool) (s : State) : (setInput c b s).ba = s.ba := rfl
@[simp] theorem setInput_tm (c : Channel) (b : Bool) (s : State) : (setInput c b s).tm = s.tm := rfl
@[simp] theorem setInput_hp (c : Channel) (b : Bool) (s : State) : (setInput c b s).hp = s.hp := rfl
@[simp] theorem setInput_free (c : Channel) (b : Bool) (s : State) : (setInput c b s).free = s.free := rfl
@[simp] theorem setInput_pending (c : Channel) (b : Bool) (s : State) : (setInput c b s).pending = s.pending := rfl

@[simp] theorem handOut_num (s : State) : (handOut s).num = s.num := rfl
@[simp] theorem handOut_rate (s : State) : (handOut s).rate = s.rate := rfl
@[simp] theorem handOut_inReset (s : State) : (handOut s).inReset = s.inReset := rfl
@[simp] theorem handOut_table (s : State) : (handOut s).table = s.table := rfl
@[simp] theorem handOut_watches (s : State) : (handOut s).watches = s.watches := rfl
@[simp] theorem handOut_mc (s : State) : (handOut s).mc = s.mc := rfl
@[simp] theorem handOut_tu (s : State) : (handOut s).tu = s.tu := rfl
@[simp] theorem handOut_ac (s : State) : (handOut s).ac = s.ac := rfl
@[simp] theorem handOut_ba (s : State) : (handOut s).ba = s.ba := rfl
@[simp] theorem handOut_tm (s : State) : (handOut s).tm = s.tm := rfl
@[simp] theorem handOut_hp (s : State) : (handOut s).hp = s.hp := rfl
@[simp] theorem handOut_free (s : State) : (handOut s).free = s.free := rfl
@[simp] theorem handOut_pending (s : State) : (handOut s).pending = s.pending := rfl

@[simp] theorem applyLevels_num (s : State) : (applyLevels s).num = s.num := rfl
@[simp] theorem applyLevels_rate (s : State) : (applyLevels s).rate = s.rate := rfl
@[simp] theorem applyLevels_inReset (s : State) : (applyLevels s).inReset = s.inReset := rfl
@[simp] theorem applyLevels_inUse (s : State) : (applyLevels s).inUse = s.inUse := rfl
@[simp] theorem applyLevels_table (s : State) : (applyLevels s).table = s.table := rfl
@[simp] theorem applyLevels_watches (s : State) : (applyLevels s).watches = s.watches := rfl
@[simp] theorem applyLevels_mc (s : State) : (applyLevels s).mc = s.mc := rfl
@[simp] theorem applyLevels_tu (s : State) : (applyLevels s).tu = s.tu := rfl
@[simp] theorem applyLevels_ac (s : State) : (applyLevels s).ac = s.ac := rfl
@[simp] theorem applyLevels_lif (s : State) : (applyLevels s).lif = s.lif := rfl
@[simp] theorem applyLevels_ba (s : State) : (applyLevels s).ba = s.ba := rfl
@[simp] theorem applyLevels_tm (s : State) : (applyLevels s).tm = s.tm := rfl
@[simp] theorem applyLevels_hp (s : State) : (applyLevels s).hp = s.hp := rfl
@[simp] theorem applyLevels_free (s : State) : (applyLevels s).free = s.free := rfl
@[simp] theorem applyLevels_pending (s : State) : (applyLevels s).pending = s.pending := rfl

@[simp] theorem endSlot_num (o : Bool) (s : State) : (endSlot o s).num = s.num := rfl
@[simp] theorem endSlot_rate (o : Bool) (s : State) : (endSlot o s).rate = s.rate := rfl
@[simp] theorem endSlot_inReset (o : Bool) (s : State) : (endSlot o s).inReset = s.inReset := rfl
@[simp] theorem endSlot_inUse (o : Bool) (s : State) : (endSlot o s).inUse = s.inUse := rfl
@[simp] theorem endSlot_table (o : Bool) (s : State) : (endSlot o s).table = s.table := rfl
@[simp] theorem endSlot_watches (o : Bool) (s : State) : (endSlot o s).watches = s.watches := rfl
@[simp] theorem endSlot_mc (o : Bool) (s : State) : (endSlot o s).mc = s.mc := rfl
@[simp] theorem endSlot_tu (o : Bool) (s : State) : (endSlot o s).tu = s.tu := rfl
@[simp] theorem endSlot_ac (o : Bool) (s : State) : (endSlot o s).ac = s.ac := rfl
@[simp] theorem endSlot_ba (o : Bool) (s : State) : (endSlot o s).ba = s.ba := rfl
@[simp] theorem endSlot_tm (o : Bool) (s : State) : (endSlot o s).tm = s.tm := rfl
@[simp] theorem endSlot_co (o : Bool) (s : State) : (endSlot o s).co = s.co := rfl
@[simp] theorem endSlot_hp (o : Bool) (s : State) : (endSlot o s).hp = s.hp := rfl
@[simp] theorem endSlot_free (o : Bool) (s : State) : (endSlot o s).free = s.free := rfl
@[simp] theorem endSlot_pending (o : Bool) (s : State) : (endSlot o s).pending = s.pending := rfl

@[simp] theorem baSettle_num (s : State) : (baSettle s).num = s.num := rfl
@[simp] theorem baSettle_rate (s : State) : (baSettle s).rate = s.rate := rfl
@[simp] theorem baSettle_inReset (s : State) : (baSettle s).inReset = s.inReset := rfl
@[simp] theorem baSettle_inUse (s : State) : (baSettle s).inUse = s.inUse := rfl
@[simp] theorem baSettle_table (s : State) : (baSettle s).table = s.table := rfl
@[simp] theorem baSettle_watches (s : State) : (baSettle s).watches = s.watches := rfl
@[simp] theorem baSettle_mc (s : State) : (baSettle s).mc = s.mc := rfl
@[simp] theorem baSettle_tu (s : State) : (baSettle s).tu = s.tu := rfl
@[simp] theorem baSettle_ac (s : State) : (baSettle s).ac = s.ac := rfl
@[simp] theorem baSettle_lif (s : State) : (baSettle s).lif = s.lif := rfl
@[simp] theorem baSettle_tm (s : State) : (baSettle s).tm = s.tm := rfl
@[simp] theorem baSettle_co (s : State) : (baSettle s).co = s.co := rfl
@[simp] theorem baSettle_hp (s : State) : (baSettle s).hp = s.hp := rfl
@[simp] theorem baSettle_free (s : State) : (baSettle s).free = s.free := rfl
@[simp] theorem baSettle_pending (s : State) : (baSettle s).pending = s.pending := rfl

/-! ## Fields that an update writes -/

@[simp] theorem post_hp (k : EventKind) (n a c : Nat) (s : State) : (post k n a c s).hp = s.hp.post k n a c := rfl
@[simp] theorem postOwn_hp (k : EventKind) (a c : Nat) (s : State) : (postOwn k a c s).hp = s.hp.post k s.num.val a c := rfl
@[simp] theorem setWatch_watches (k : Station) (w : Watch) (s : State) :
    (setWatch k w s).watches = s.watches.set k w := rfl
@[simp] theorem formDemand_ba (s : State) : (formDemand s).ba = { s.ba with demand := demandTotal s } := rfl
@[simp] theorem formCap_ba (s : State) : (formCap s).ba = { s.ba with cap := capValue s } := rfl
@[simp] theorem setPhase_mc (p : Phase) (c : Cause) (s : State) :
    (setPhase p c s).mc = { s.mc with phase := p, cause := c } := rfl
@[simp] theorem setPhase_hp (p : Phase) (c : Cause) (s : State) :
    (setPhase p c s).hp = s.hp.post .phase s.num.val (phaseCode p) (causeCode c) := rfl
@[simp] theorem postRefusal_hp (c : Cause) (s : State) :
    (postRefusal c s).hp = s.hp.post .phase s.num.val (phaseCode s.mc.phase) (causeCode c) := rfl
@[simp] theorem startRejoin_mc (s : State) : (startRejoin s).mc = { s.mc with rejoin := startMs (tRejoin s) } := rfl
@[simp] theorem answer_hp (bs : List Byte) (s : State) :
    (answer bs s).hp = { s.hp with port := .response bs, dataOut := some 0 } := rfl
@[simp] theorem endSlot_lif (o : Bool) (s : State) :
    (endSlot o s).lif = { s.lif with line := .slots 0, objected := o } := rfl
@[simp] theorem stage_counter (s : State) : (stage s).co.counter = s.co.counter := rfl
@[simp] theorem forceZeroAll_counter (s : State) : (forceZeroAll s).co.counter = s.co.counter := rfl
@[simp] theorem forceZero_counter (c : Channel) (s : State) : (forceZero c s).co.counter = s.co.counter := rfl
@[simp] theorem handOut_inUse (s : State) : (handOut s).inUse = s.hp.stored := rfl
@[simp] theorem handOut_co (s : State) : (handOut s).co = { s.co with counter := 0 } := rfl
@[simp] theorem handOut_lif (s : State) : (handOut s).lif = { s.lif with lineFaultOut := 0 } := rfl
@[simp] theorem applyLevels_counter (s : State) : (applyLevels s).co.counter = 0 := rfl

/-! ## Posts -/

@[simp] theorem Hp.post_port (hp : Hp) (k : EventKind) (n a c : Nat) : (hp.post k n a c).port = hp.port := by
  unfold Hp.post; split <;> rfl
@[simp] theorem Hp.post_csLow (hp : Hp) (k : EventKind) (n a c : Nat) : (hp.post k n a c).csLow = hp.csLow := by
  unfold Hp.post; split <;> rfl
@[simp] theorem Hp.post_dataOut (hp : Hp) (k : EventKind) (n a c : Nat) : (hp.post k n a c).dataOut = hp.dataOut := by
  unfold Hp.post; split <;> rfl
@[simp] theorem Hp.post_stored (hp : Hp) (k : EventKind) (n a c : Nat) : (hp.post k n a c).stored = hp.stored := by
  unfold Hp.post; split <;> rfl
@[simp] theorem Hp.post_enables (hp : Hp) (k : EventKind) (n a c : Nat) : (hp.post k n a c).enables = hp.enables := by
  unfold Hp.post; split <;> rfl

end Sys2Proof.Machine
end

