-- ==== Sys2Proof/Laws/Ops.lean ====
section
/-! SUPPORT. What the shared operations of Ops.lean can change: each field of State that an operation never writes. -/

namespace Sys2Proof.Machine

/-- A field that every step of a fold keeps, the fold keeps. -/
theorem foldl_keeps {α β : Type} (g : State → α) (f : State → β → State) (h : ∀ s x, g (f s x) = g s) (l : List β)
    (s : State) : g (l.foldl f s) = g s := by
  induction l generalizing s with
  | nil => rfl
  | cons x l ih => rw [List.foldl_cons, ih, h]

/-! A request by MC -/

@[simp] theorem mcRequest_num (b : Body) (s : State) : (mcRequest b s).num = s.num := by unfold mcRequest; split <;> rfl
@[simp] theorem mcRequest_rate (b : Body) (s : State) : (mcRequest b s).rate = s.rate := by
  unfold mcRequest; split <;> rfl
@[simp] theorem mcRequest_inReset (b : Body) (s : State) : (mcRequest b s).inReset = s.inReset := by
  unfold mcRequest; split <;> rfl
@[simp] theorem mcRequest_inUse (b : Body) (s : State) : (mcRequest b s).inUse = s.inUse := by
  unfold mcRequest; split <;> rfl
@[simp] theorem mcRequest_table (b : Body) (s : State) : (mcRequest b s).table = s.table := by
  unfold mcRequest; split <;> rfl
@[simp] theorem mcRequest_watches (b : Body) (s : State) : (mcRequest b s).watches = s.watches := by
  unfold mcRequest; split <;> rfl
@[simp] theorem mcRequest_tu (b : Body) (s : State) : (mcRequest b s).tu = s.tu := by unfold mcRequest; split <;> rfl
@[simp] theorem mcRequest_ac (b : Body) (s : State) : (mcRequest b s).ac = s.ac := by unfold mcRequest; split <;> rfl
@[simp] theorem mcRequest_ba (b : Body) (s : State) : (mcRequest b s).ba = s.ba := by unfold mcRequest; split <;> rfl
@[simp] theorem mcRequest_tm (b : Body) (s : State) : (mcRequest b s).tm = s.tm := by unfold mcRequest; split <;> rfl
@[simp] theorem mcRequest_co (b : Body) (s : State) : (mcRequest b s).co = s.co := by unfold mcRequest; split <;> rfl
@[simp] theorem mcRequest_hp (b : Body) (s : State) : (mcRequest b s).hp = s.hp := by unfold mcRequest; split <;> rfl
@[simp] theorem mcRequest_free (b : Body) (s : State) : (mcRequest b s).free = s.free := by
  unfold mcRequest; split <;> rfl
@[simp] theorem mcRequest_pending (b : Body) (s : State) : (mcRequest b s).pending = s.pending := by
  unfold mcRequest; split <;> rfl

/-! A request by the Claim Arithmetic -/

@[simp] theorem caRequest_num (k : Station) (s : State) : (caRequest k s).num = s.num := by
  unfold caRequest; split <;> rfl
@[simp] theorem caRequest_rate (k : Station) (s : State) : (caRequest k s).rate = s.rate := by
  unfold caRequest; split <;> rfl
@[simp] theorem caRequest_inReset (k : Station) (s : State) : (caRequest k s).inReset = s.inReset := by
  unfold caRequest; split <;> rfl
@[simp] theorem caRequest_inUse (k : Station) (s : State) : (caRequest k s).inUse = s.inUse := by
  unfold caRequest; split <;> rfl
@[simp] theorem caRequest_table (k : Station) (s : State) : (caRequest k s).table = s.table := by
  unfold caRequest; split <;> rfl
@[simp] theorem caRequest_mc (k : Station) (s : State) : (caRequest k s).mc = s.mc := by unfold caRequest; split <;> rfl
@[simp] theorem caRequest_tu (k : Station) (s : State) : (caRequest k s).tu = s.tu := by unfold caRequest; split <;> rfl
@[simp] theorem caRequest_ac (k : Station) (s : State) : (caRequest k s).ac = s.ac := by unfold caRequest; split <;> rfl
@[simp] theorem caRequest_ba (k : Station) (s : State) : (caRequest k s).ba = s.ba := by unfold caRequest; split <;> rfl
@[simp] theorem caRequest_tm (k : Station) (s : State) : (caRequest k s).tm = s.tm := by unfold caRequest; split <;> rfl
@[simp] theorem caRequest_co (k : Station) (s : State) : (caRequest k s).co = s.co := by unfold caRequest; split <;> rfl
@[simp] theorem caRequest_hp (k : Station) (s : State) : (caRequest k s).hp = s.hp := by unfold caRequest; split <;> rfl
@[simp] theorem caRequest_free (k : Station) (s : State) : (caRequest k s).free = s.free := by
  unfold caRequest; split <;> rfl
@[simp] theorem caRequest_pending (k : Station) (s : State) : (caRequest k s).pending = s.pending := by
  unfold caRequest; split <;> rfl

/-! Requests by BA -/

@[simp] theorem baRequestClaim_num (s : State) : (baRequestClaim s).num = s.num := by
  unfold baRequestClaim; split <;> rfl
@[simp] theorem baRequestClaim_rate (s : State) : (baRequestClaim s).rate = s.rate := by
  unfold baRequestClaim; split <;> rfl
@[simp] theorem baRequestClaim_inReset (s : State) : (baRequestClaim s).inReset = s.inReset := by
  unfold baRequestClaim; split <;> rfl
@[simp] theorem baRequestClaim_inUse (s : State) : (baRequestClaim s).inUse = s.inUse := by
  unfold baRequestClaim; split <;> rfl
@[simp] theorem baRequestClaim_table (s : State) : (baRequestClaim s).table = s.table := by
  unfold baRequestClaim; split <;> rfl
@[simp] theorem baRequestClaim_watches (s : State) : (baRequestClaim s).watches = s.watches := by
  unfold baRequestClaim; split <;> rfl
@[simp] theorem baRequestClaim_mc (s : State) : (baRequestClaim s).mc = s.mc := by unfold baRequestClaim; split <;> rfl
@[simp] theorem baRequestClaim_tu (s : State) : (baRequestClaim s).tu = s.tu := by unfold baRequestClaim; split <;> rfl
@[simp] theorem baRequestClaim_ac (s : State) : (baRequestClaim s).ac = s.ac := by unfold baRequestClaim; split <;> rfl
@[simp] theorem baRequestClaim_tm (s : State) : (baRequestClaim s).tm = s.tm := by unfold baRequestClaim; split <;> rfl
@[simp] theorem baRequestClaim_co (s : State) : (baRequestClaim s).co = s.co := by unfold baRequestClaim; split <;> rfl
@[simp] theorem baRequestClaim_hp (s : State) : (baRequestClaim s).hp = s.hp := by unfold baRequestClaim; split <;> rfl
@[simp] theorem baRequestClaim_free (s : State) : (baRequestClaim s).free = s.free := by
  unfold baRequestClaim; split <;> rfl
@[simp] theorem baRequestClaim_pending (s : State) : (baRequestClaim s).pending = s.pending := by
  unfold baRequestClaim; split <;> rfl

/-! The RELEASE request -/

@[simp] theorem baRequestRelease_num (s : State) : (baRequestRelease s).num = s.num := by
  unfold baRequestRelease; split <;> rfl
@[simp] theorem baRequestRelease_rate (s : State) : (baRequestRelease s).rate = s.rate := by
  unfold baRequestRelease; split <;> rfl
@[simp] theorem baRequestRelease_inReset (s : State) : (baRequestRelease s).inReset = s.inReset := by
  unfold baRequestRelease; split <;> rfl
@[simp] theorem baRequestRelease_inUse (s : State) : (baRequestRelease s).inUse = s.inUse := by
  unfold baRequestRelease; split <;> rfl
@[simp] theorem baRequestRelease_table (s : State) : (baRequestRelease s).table = s.table := by
  unfold baRequestRelease; split <;> rfl
@[simp] theorem baRequestRelease_watches (s : State) : (baRequestRelease s).watches = s.watches := by
  unfold baRequestRelease; split <;> rfl
@[simp] theorem baRequestRelease_mc (s : State) : (baRequestRelease s).mc = s.mc := by
  unfold baRequestRelease; split <;> rfl
@[simp] theorem baRequestRelease_tu (s : State) : (baRequestRelease s).tu = s.tu := by
  unfold baRequestRelease; split <;> rfl
@[simp] theorem baRequestRelease_ac (s : State) : (baRequestRelease s).ac = s.ac := by
  unfold baRequestRelease; split <;> rfl
@[simp] theorem baRequestRelease_tm (s : State) : (baRequestRelease s).tm = s.tm := by
  unfold baRequestRelease; split <;> rfl
@[simp] theorem baRequestRelease_co (s : State) : (baRequestRelease s).co = s.co := by
  unfold baRequestRelease; split <;> rfl
@[simp] theorem baRequestRelease_hp (s : State) : (baRequestRelease s).hp = s.hp := by
  unfold baRequestRelease; split <;> rfl
@[simp] theorem baRequestRelease_free (s : State) : (baRequestRelease s).free = s.free := by
  unfold baRequestRelease; split <;> rfl
@[simp] theorem baRequestRelease_pending (s : State) : (baRequestRelease s).pending = s.pending := by
  unfold baRequestRelease; split <;> rfl

/-! Requests by TU -/

@[simp] theorem tuRequestSync_num (s : State) : (tuRequestSync s).num = s.num := by unfold tuRequestSync; split <;> rfl
@[simp] theorem tuRequestSync_rate (s : State) : (tuRequestSync s).rate = s.rate := by
  unfold tuRequestSync; split <;> rfl
@[simp] theorem tuRequestSync_inReset (s : State) : (tuRequestSync s).inReset = s.inReset := by
  unfold tuRequestSync; split <;> rfl
@[simp] theorem tuRequestSync_inUse (s : State) : (tuRequestSync s).inUse = s.inUse := by
  unfold tuRequestSync; split <;> rfl
@[simp] theorem tuRequestSync_table (s : State) : (tuRequestSync s).table = s.table := by
  unfold tuRequestSync; split <;> rfl
@[simp] theorem tuRequestSync_watches (s : State) : (tuRequestSync s).watches = s.watches := by
  unfold tuRequestSync; split <;> rfl
@[simp] theorem tuRequestSync_mc (s : State) : (tuRequestSync s).mc = s.mc := by unfold tuRequestSync; split <;> rfl
@[simp] theorem tuRequestSync_ac (s : State) : (tuRequestSync s).ac = s.ac := by unfold tuRequestSync; split <;> rfl
@[simp] theorem tuRequestSync_ba (s : State) : (tuRequestSync s).ba = s.ba := by unfold tuRequestSync; split <;> rfl
@[simp] theorem tuRequestSync_tm (s : State) : (tuRequestSync s).tm = s.tm := by unfold tuRequestSync; split <;> rfl
@[simp] theorem tuRequestSync_co (s : State) : (tuRequestSync s).co = s.co := by unfold tuRequestSync; split <;> rfl
@[simp] theorem tuRequestSync_hp (s : State) : (tuRequestSync s).hp = s.hp := by unfold tuRequestSync; split <;> rfl
@[simp] theorem tuRequestSync_free (s : State) : (tuRequestSync s).free = s.free := by
  unfold tuRequestSync; split <;> rfl
@[simp] theorem tuRequestSync_pending (s : State) : (tuRequestSync s).pending = s.pending := by
  unfold tuRequestSync; split <;> rfl

/-! The piece request -/

@[simp] theorem tuRequestPiece_num (s : State) : (tuRequestPiece s).num = s.num := by
  unfold tuRequestPiece; split <;> [rfl; (split <;> rfl)]
@[simp] theorem tuRequestPiece_rate (s : State) : (tuRequestPiece s).rate = s.rate := by
  unfold tuRequestPiece; split <;> [rfl; (split <;> rfl)]
@[simp] theorem tuRequestPiece_inReset (s : State) : (tuRequestPiece s).inReset = s.inReset := by
  unfold tuRequestPiece; split <;> [rfl; (split <;> rfl)]
@[simp] theorem tuRequestPiece_inUse (s : State) : (tuRequestPiece s).inUse = s.inUse := by
  unfold tuRequestPiece; split <;> [rfl; (split <;> rfl)]
@[simp] theorem tuRequestPiece_table (s : State) : (tuRequestPiece s).table = s.table := by
  unfold tuRequestPiece; split <;> [rfl; (split <;> rfl)]
@[simp] theorem tuRequestPiece_watches (s : State) : (tuRequestPiece s).watches = s.watches := by
  unfold tuRequestPiece; split <;> [rfl; (split <;> rfl)]
@[simp] theorem tuRequestPiece_mc (s : State) : (tuRequestPiece s).mc = s.mc := by
  unfold tuRequestPiece; split <;> [rfl; (split <;> rfl)]
@[simp] theorem tuRequestPiece_ac (s : State) : (tuRequestPiece s).ac = s.ac := by
  unfold tuRequestPiece; split <;> [rfl; (split <;> rfl)]
@[simp] theorem tuRequestPiece_ba (s : State) : (tuRequestPiece s).ba = s.ba := by
  unfold tuRequestPiece; split <;> [rfl; (split <;> rfl)]
@[simp] theorem tuRequestPiece_tm (s : State) : (tuRequestPiece s).tm = s.tm := by
  unfold tuRequestPiece; split <;> [rfl; (split <;> rfl)]
@[simp] theorem tuRequestPiece_co (s : State) : (tuRequestPiece s).co = s.co := by
  unfold tuRequestPiece; split <;> [rfl; (split <;> rfl)]
@[simp] theorem tuRequestPiece_hp (s : State) : (tuRequestPiece s).hp = s.hp := by
  unfold tuRequestPiece; split <;> [rfl; (split <;> rfl)]
@[simp] theorem tuRequestPiece_free (s : State) : (tuRequestPiece s).free = s.free := by
  unfold tuRequestPiece; split <;> [rfl; (split <;> rfl)]
@[simp] theorem tuRequestPiece_pending (s : State) : (tuRequestPiece s).pending = s.pending := by
  unfold tuRequestPiece; split <;> [rfl; (split <;> rfl)]

/-! What a shrink report brings -/

@[simp] theorem mcRetry_num (s : State) : (mcRetry s).num = s.num := by
  exact foldl_keeps (·.num) _ (fun s b => mcRequest_num b s) _ _
@[simp] theorem mcRetry_rate (s : State) : (mcRetry s).rate = s.rate := by
  exact foldl_keeps (·.rate) _ (fun s b => mcRequest_rate b s) _ _
@[simp] theorem mcRetry_inReset (s : State) : (mcRetry s).inReset = s.inReset := by
  exact foldl_keeps (·.inReset) _ (fun s b => mcRequest_inReset b s) _ _
@[simp] theorem mcRetry_inUse (s : State) : (mcRetry s).inUse = s.inUse := by
  exact foldl_keeps (·.inUse) _ (fun s b => mcRequest_inUse b s) _ _
@[simp] theorem mcRetry_table (s : State) : (mcRetry s).table = s.table := by
  exact foldl_keeps (·.table) _ (fun s b => mcRequest_table b s) _ _
@[simp] theorem mcRetry_watches (s : State) : (mcRetry s).watches = s.watches := by
  exact foldl_keeps (·.watches) _ (fun s b => mcRequest_watches b s) _ _
@[simp] theorem mcRetry_tu (s : State) : (mcRetry s).tu = s.tu := by
  exact foldl_keeps (·.tu) _ (fun s b => mcRequest_tu b s) _ _
@[simp] theorem mcRetry_ac (s : State) : (mcRetry s).ac = s.ac := by
  exact foldl_keeps (·.ac) _ (fun s b => mcRequest_ac b s) _ _
@[simp] theorem mcRetry_ba (s : State) : (mcRetry s).ba = s.ba := by
  exact foldl_keeps (·.ba) _ (fun s b => mcRequest_ba b s) _ _
@[simp] theorem mcRetry_tm (s : State) : (mcRetry s).tm = s.tm := by
  exact foldl_keeps (·.tm) _ (fun s b => mcRequest_tm b s) _ _
@[simp] theorem mcRetry_co (s : State) : (mcRetry s).co = s.co := by
  exact foldl_keeps (·.co) _ (fun s b => mcRequest_co b s) _ _
@[simp] theorem mcRetry_hp (s : State) : (mcRetry s).hp = s.hp := by
  exact foldl_keeps (·.hp) _ (fun s b => mcRequest_hp b s) _ _
@[simp] theorem mcRetry_free (s : State) : (mcRetry s).free = s.free := by
  exact foldl_keeps (·.free) _ (fun s b => mcRequest_free b s) _ _
@[simp] theorem mcRetry_pending (s : State) : (mcRetry s).pending = s.pending := by
  exact foldl_keeps (·.pending) _ (fun s b => mcRequest_pending b s) _ _

/-! The Claim Arithmetic's part -/

@[simp] theorem caRetry_num (s : State) : (caRetry s).num = s.num := by
  exact foldl_keeps (·.num) _ (fun s k => by split <;> simp) _ _
@[simp] theorem caRetry_rate (s : State) : (caRetry s).rate = s.rate := by
  exact foldl_keeps (·.rate) _ (fun s k => by split <;> simp) _ _
@[simp] theorem caRetry_inReset (s : State) : (caRetry s).inReset = s.inReset := by
  exact foldl_keeps (·.inReset) _ (fun s k => by split <;> simp) _ _
@[simp] theorem caRetry_inUse (s : State) : (caRetry s).inUse = s.inUse := by
  exact foldl_keeps (·.inUse) _ (fun s k => by split <;> simp) _ _
@[simp] theorem caRetry_table (s : State) : (caRetry s).table = s.table := by
  exact foldl_keeps (·.table) _ (fun s k => by split <;> simp) _ _
@[simp] theorem caRetry_mc (s : State) : (caRetry s).mc = s.mc := by
  exact foldl_keeps (·.mc) _ (fun s k => by split <;> simp) _ _
@[simp] theorem caRetry_tu (s : State) : (caRetry s).tu = s.tu := by
  exact foldl_keeps (·.tu) _ (fun s k => by split <;> simp) _ _
@[simp] theorem caRetry_ac (s : State) : (caRetry s).ac = s.ac := by
  exact foldl_keeps (·.ac) _ (fun s k => by split <;> simp) _ _
@[simp] theorem caRetry_ba (s : State) : (caRetry s).ba = s.ba := by
  exact foldl_keeps (·.ba) _ (fun s k => by split <;> simp) _ _
@[simp] theorem caRetry_tm (s : State) : (caRetry s).tm = s.tm := by
  exact foldl_keeps (·.tm) _ (fun s k => by split <;> simp) _ _
@[simp] theorem caRetry_co (s : State) : (caRetry s).co = s.co := by
  exact foldl_keeps (·.co) _ (fun s k => by split <;> simp) _ _
@[simp] theorem caRetry_hp (s : State) : (caRetry s).hp = s.hp := by
  exact foldl_keeps (·.hp) _ (fun s k => by split <;> simp) _ _
@[simp] theorem caRetry_free (s : State) : (caRetry s).free = s.free := by
  exact foldl_keeps (·.free) _ (fun s k => by split <;> simp) _ _
@[simp] theorem caRetry_pending (s : State) : (caRetry s).pending = s.pending := by
  exact foldl_keeps (·.pending) _ (fun s k => by split <;> simp) _ _

/-! The test for a claim -/

@[simp] theorem testClaim_num (s : State) : (testClaim s).num = s.num := by unfold testClaim; split <;> simp
@[simp] theorem testClaim_rate (s : State) : (testClaim s).rate = s.rate := by unfold testClaim; split <;> simp
@[simp] theorem testClaim_inReset (s : State) : (testClaim s).inReset = s.inReset := by unfold testClaim; split <;> simp
@[simp] theorem testClaim_inUse (s : State) : (testClaim s).inUse = s.inUse := by unfold testClaim; split <;> simp
@[simp] theorem testClaim_table (s : State) : (testClaim s).table = s.table := by unfold testClaim; split <;> simp
@[simp] theorem testClaim_watches (s : State) : (testClaim s).watches = s.watches := by unfold testClaim; split <;> simp
@[simp] theorem testClaim_mc (s : State) : (testClaim s).mc = s.mc := by unfold testClaim; split <;> simp
@[simp] theorem testClaim_tu (s : State) : (testClaim s).tu = s.tu := by unfold testClaim; split <;> simp
@[simp] theorem testClaim_ac (s : State) : (testClaim s).ac = s.ac := by unfold testClaim; split <;> simp
@[simp] theorem testClaim_tm (s : State) : (testClaim s).tm = s.tm := by unfold testClaim; split <;> simp
@[simp] theorem testClaim_co (s : State) : (testClaim s).co = s.co := by unfold testClaim; split <;> simp
@[simp] theorem testClaim_hp (s : State) : (testClaim s).hp = s.hp := by unfold testClaim; split <;> simp
@[simp] theorem testClaim_free (s : State) : (testClaim s).free = s.free := by unfold testClaim; split <;> simp
@[simp] theorem testClaim_pending (s : State) : (testClaim s).pending = s.pending := by unfold testClaim; split <;> simp

/-! BA's part: the HELD claim -/

@[simp] theorem retryClaim_num (s : State) : (retryClaim s).num = s.num := by
  unfold retryClaim; (repeat' split) <;> simp
@[simp] theorem retryClaim_rate (s : State) : (retryClaim s).rate = s.rate := by
  unfold retryClaim; (repeat' split) <;> simp
@[simp] theorem retryClaim_inReset (s : State) : (retryClaim s).inReset = s.inReset := by
  unfold retryClaim; (repeat' split) <;> simp
@[simp] theorem retryClaim_inUse (s : State) : (retryClaim s).inUse = s.inUse := by
  unfold retryClaim; (repeat' split) <;> simp
@[simp] theorem retryClaim_table (s : State) : (retryClaim s).table = s.table := by
  unfold retryClaim; (repeat' split) <;> simp
@[simp] theorem retryClaim_watches (s : State) : (retryClaim s).watches = s.watches := by
  unfold retryClaim; (repeat' split) <;> simp
@[simp] theorem retryClaim_mc (s : State) : (retryClaim s).mc = s.mc := by unfold retryClaim; (repeat' split) <;> simp
@[simp] theorem retryClaim_tu (s : State) : (retryClaim s).tu = s.tu := by unfold retryClaim; (repeat' split) <;> simp
@[simp] theorem retryClaim_ac (s : State) : (retryClaim s).ac = s.ac := by unfold retryClaim; (repeat' split) <;> simp
@[simp] theorem retryClaim_tm (s : State) : (retryClaim s).tm = s.tm := by unfold retryClaim; (repeat' split) <;> simp
@[simp] theorem retryClaim_co (s : State) : (retryClaim s).co = s.co := by unfold retryClaim; (repeat' split) <;> simp
@[simp] theorem retryClaim_hp (s : State) : (retryClaim s).hp = s.hp := by unfold retryClaim; (repeat' split) <;> simp
@[simp] theorem retryClaim_free (s : State) : (retryClaim s).free = s.free := by
  unfold retryClaim; (repeat' split) <;> simp
@[simp] theorem retryClaim_pending (s : State) : (retryClaim s).pending = s.pending := by
  unfold retryClaim; (repeat' split) <;> simp

/-! The HELD release -/

@[simp] theorem retryRelease_num (s : State) : (retryRelease s).num = s.num := by
  unfold retryRelease; (repeat' split) <;> simp
@[simp] theorem retryRelease_rate (s : State) : (retryRelease s).rate = s.rate := by
  unfold retryRelease; (repeat' split) <;> simp
@[simp] theorem retryRelease_inReset (s : State) : (retryRelease s).inReset = s.inReset := by
  unfold retryRelease; (repeat' split) <;> simp
@[simp] theorem retryRelease_inUse (s : State) : (retryRelease s).inUse = s.inUse := by
  unfold retryRelease; (repeat' split) <;> simp
@[simp] theorem retryRelease_table (s : State) : (retryRelease s).table = s.table := by
  unfold retryRelease; (repeat' split) <;> simp
@[simp] theorem retryRelease_watches (s : State) : (retryRelease s).watches = s.watches := by
  unfold retryRelease; (repeat' split) <;> simp
@[simp] theorem retryRelease_mc (s : State) : (retryRelease s).mc = s.mc := by
  unfold retryRelease; (repeat' split) <;> simp
@[simp] theorem retryRelease_tu (s : State) : (retryRelease s).tu = s.tu := by
  unfold retryRelease; (repeat' split) <;> simp
@[simp] theorem retryRelease_ac (s : State) : (retryRelease s).ac = s.ac := by
  unfold retryRelease; (repeat' split) <;> simp
@[simp] theorem retryRelease_tm (s : State) : (retryRelease s).tm = s.tm := by
  unfold retryRelease; (repeat' split) <;> simp
@[simp] theorem retryRelease_co (s : State) : (retryRelease s).co = s.co := by
  unfold retryRelease; (repeat' split) <;> simp
@[simp] theorem retryRelease_hp (s : State) : (retryRelease s).hp = s.hp := by
  unfold retryRelease; (repeat' split) <;> simp
@[simp] theorem retryRelease_free (s : State) : (retryRelease s).free = s.free := by
  unfold retryRelease; (repeat' split) <;> simp
@[simp] theorem retryRelease_pending (s : State) : (retryRelease s).pending = s.pending := by
  unfold retryRelease; (repeat' split) <;> simp

/-! Both, and the test for a claim -/

@[simp] theorem baRetry_num (s : State) : (baRetry s).num = s.num := by simp [baRetry]
@[simp] theorem baRetry_rate (s : State) : (baRetry s).rate = s.rate := by simp [baRetry]
@[simp] theorem baRetry_inReset (s : State) : (baRetry s).inReset = s.inReset := by simp [baRetry]
@[simp] theorem baRetry_inUse (s : State) : (baRetry s).inUse = s.inUse := by simp [baRetry]
@[simp] theorem baRetry_table (s : State) : (baRetry s).table = s.table := by simp [baRetry]
@[simp] theorem baRetry_watches (s : State) : (baRetry s).watches = s.watches := by simp [baRetry]
@[simp] theorem baRetry_mc (s : State) : (baRetry s).mc = s.mc := by simp [baRetry]
@[simp] theorem baRetry_tu (s : State) : (baRetry s).tu = s.tu := by simp [baRetry]
@[simp] theorem baRetry_ac (s : State) : (baRetry s).ac = s.ac := by simp [baRetry]
@[simp] theorem baRetry_tm (s : State) : (baRetry s).tm = s.tm := by simp [baRetry]
@[simp] theorem baRetry_co (s : State) : (baRetry s).co = s.co := by simp [baRetry]
@[simp] theorem baRetry_hp (s : State) : (baRetry s).hp = s.hp := by simp [baRetry]
@[simp] theorem baRetry_free (s : State) : (baRetry s).free = s.free := by simp [baRetry]
@[simp] theorem baRetry_pending (s : State) : (baRetry s).pending = s.pending := by simp [baRetry]

/-! TU's part -/

@[simp] theorem tuRetry_num (s : State) : (tuRetry s).num = s.num := by
  unfold tuRetry; dsimp only; (repeat' split) <;> simp
@[simp] theorem tuRetry_rate (s : State) : (tuRetry s).rate = s.rate := by
  unfold tuRetry; dsimp only; (repeat' split) <;> simp
@[simp] theorem tuRetry_inReset (s : State) : (tuRetry s).inReset = s.inReset := by
  unfold tuRetry; dsimp only; (repeat' split) <;> simp
@[simp] theorem tuRetry_inUse (s : State) : (tuRetry s).inUse = s.inUse := by
  unfold tuRetry; dsimp only; (repeat' split) <;> simp
@[simp] theorem tuRetry_table (s : State) : (tuRetry s).table = s.table := by
  unfold tuRetry; dsimp only; (repeat' split) <;> simp
@[simp] theorem tuRetry_watches (s : State) : (tuRetry s).watches = s.watches := by
  unfold tuRetry; dsimp only; (repeat' split) <;> simp
@[simp] theorem tuRetry_mc (s : State) : (tuRetry s).mc = s.mc := by
  unfold tuRetry; dsimp only; (repeat' split) <;> simp
@[simp] theorem tuRetry_ac (s : State) : (tuRetry s).ac = s.ac := by
  unfold tuRetry; dsimp only; (repeat' split) <;> simp
@[simp] theorem tuRetry_ba (s : State) : (tuRetry s).ba = s.ba := by
  unfold tuRetry; dsimp only; (repeat' split) <;> simp
@[simp] theorem tuRetry_tm (s : State) : (tuRetry s).tm = s.tm := by
  unfold tuRetry; dsimp only; (repeat' split) <;> simp
@[simp] theorem tuRetry_co (s : State) : (tuRetry s).co = s.co := by
  unfold tuRetry; dsimp only; (repeat' split) <;> simp
@[simp] theorem tuRetry_hp (s : State) : (tuRetry s).hp = s.hp := by
  unfold tuRetry; dsimp only; (repeat' split) <;> simp
@[simp] theorem tuRetry_free (s : State) : (tuRetry s).free = s.free := by
  unfold tuRetry; dsimp only; (repeat' split) <;> simp
@[simp] theorem tuRetry_pending (s : State) : (tuRetry s).pending = s.pending := by
  unfold tuRetry; dsimp only; (repeat' split) <;> simp

/-! A shrink report -/

@[simp] theorem shrink_num (s : State) : (shrink s).num = s.num := by
  unfold shrink; dsimp only; (repeat' split) <;> simp
@[simp] theorem shrink_rate (s : State) : (shrink s).rate = s.rate := by
  unfold shrink; dsimp only; (repeat' split) <;> simp
@[simp] theorem shrink_inReset (s : State) : (shrink s).inReset = s.inReset := by
  unfold shrink; dsimp only; (repeat' split) <;> simp
@[simp] theorem shrink_inUse (s : State) : (shrink s).inUse = s.inUse := by
  unfold shrink; dsimp only; (repeat' split) <;> simp
@[simp] theorem shrink_table (s : State) : (shrink s).table = s.table := by
  unfold shrink; dsimp only; (repeat' split) <;> simp
@[simp] theorem shrink_ac (s : State) : (shrink s).ac = s.ac := by unfold shrink; dsimp only; (repeat' split) <;> simp
@[simp] theorem shrink_tm (s : State) : (shrink s).tm = s.tm := by unfold shrink; dsimp only; (repeat' split) <;> simp
@[simp] theorem shrink_co (s : State) : (shrink s).co = s.co := by unfold shrink; dsimp only; (repeat' split) <;> simp
@[simp] theorem shrink_hp (s : State) : (shrink s).hp = s.hp := by unfold shrink; dsimp only; (repeat' split) <;> simp
@[simp] theorem shrink_free (s : State) : (shrink s).free = s.free := by
  unfold shrink; dsimp only; (repeat' split) <;> simp
@[simp] theorem shrink_pending (s : State) : (shrink s).pending = s.pending := by
  unfold shrink; dsimp only; (repeat' split) <;> simp

/-! A withdrawal -/

@[simp] theorem withdraw_num (b : Body) (k : Block) (s : State) : (withdraw b k s).num = s.num := by
  unfold withdraw; dsimp only; split <;> simp
@[simp] theorem withdraw_rate (b : Body) (k : Block) (s : State) : (withdraw b k s).rate = s.rate := by
  unfold withdraw; dsimp only; split <;> simp
@[simp] theorem withdraw_inReset (b : Body) (k : Block) (s : State) : (withdraw b k s).inReset = s.inReset := by
  unfold withdraw; dsimp only; split <;> simp
@[simp] theorem withdraw_inUse (b : Body) (k : Block) (s : State) : (withdraw b k s).inUse = s.inUse := by
  unfold withdraw; dsimp only; split <;> simp
@[simp] theorem withdraw_table (b : Body) (k : Block) (s : State) : (withdraw b k s).table = s.table := by
  unfold withdraw; dsimp only; split <;> simp
@[simp] theorem withdraw_ac (b : Body) (k : Block) (s : State) : (withdraw b k s).ac = s.ac := by
  unfold withdraw; dsimp only; split <;> simp
@[simp] theorem withdraw_tm (b : Body) (k : Block) (s : State) : (withdraw b k s).tm = s.tm := by
  unfold withdraw; dsimp only; split <;> simp
@[simp] theorem withdraw_co (b : Body) (k : Block) (s : State) : (withdraw b k s).co = s.co := by
  unfold withdraw; dsimp only; split <;> simp
@[simp] theorem withdraw_hp (b : Body) (k : Block) (s : State) : (withdraw b k s).hp = s.hp := by
  unfold withdraw; dsimp only; split <;> simp
@[simp] theorem withdraw_free (b : Body) (k : Block) (s : State) : (withdraw b k s).free = s.free := by
  unfold withdraw; dsimp only; split <;> simp
@[simp] theorem withdraw_pending (b : Body) (k : Block) (s : State) : (withdraw b k s).pending = s.pending := by
  unfold withdraw; dsimp only; split <;> simp

/-! A withdrawal by MC -/

@[simp] theorem mcWithdraw_num (b : Body) (s : State) : (mcWithdraw b s).num = s.num := by simp [mcWithdraw]
@[simp] theorem mcWithdraw_rate (b : Body) (s : State) : (mcWithdraw b s).rate = s.rate := by simp [mcWithdraw]
@[simp] theorem mcWithdraw_inReset (b : Body) (s : State) : (mcWithdraw b s).inReset = s.inReset := by simp [mcWithdraw]
@[simp] theorem mcWithdraw_inUse (b : Body) (s : State) : (mcWithdraw b s).inUse = s.inUse := by simp [mcWithdraw]
@[simp] theorem mcWithdraw_table (b : Body) (s : State) : (mcWithdraw b s).table = s.table := by simp [mcWithdraw]
@[simp] theorem mcWithdraw_ac (b : Body) (s : State) : (mcWithdraw b s).ac = s.ac := by simp [mcWithdraw]
@[simp] theorem mcWithdraw_tm (b : Body) (s : State) : (mcWithdraw b s).tm = s.tm := by simp [mcWithdraw]
@[simp] theorem mcWithdraw_co (b : Body) (s : State) : (mcWithdraw b s).co = s.co := by simp [mcWithdraw]
@[simp] theorem mcWithdraw_hp (b : Body) (s : State) : (mcWithdraw b s).hp = s.hp := by simp [mcWithdraw]
@[simp] theorem mcWithdraw_free (b : Body) (s : State) : (mcWithdraw b s).free = s.free := by simp [mcWithdraw]
@[simp] theorem mcWithdraw_pending (b : Body) (s : State) : (mcWithdraw b s).pending = s.pending := by simp [mcWithdraw]

/-! The end of a snapshot -/

@[simp] theorem endSnapshot_num (s : State) : (endSnapshot s).num = s.num := by unfold endSnapshot; split <;> simp
@[simp] theorem endSnapshot_rate (s : State) : (endSnapshot s).rate = s.rate := by unfold endSnapshot; split <;> simp
@[simp] theorem endSnapshot_inReset (s : State) : (endSnapshot s).inReset = s.inReset := by
  unfold endSnapshot; split <;> simp
@[simp] theorem endSnapshot_inUse (s : State) : (endSnapshot s).inUse = s.inUse := by unfold endSnapshot; split <;> simp
@[simp] theorem endSnapshot_table (s : State) : (endSnapshot s).table = s.table := by unfold endSnapshot; split <;> simp
@[simp] theorem endSnapshot_ac (s : State) : (endSnapshot s).ac = s.ac := by unfold endSnapshot; split <;> simp
@[simp] theorem endSnapshot_tm (s : State) : (endSnapshot s).tm = s.tm := by unfold endSnapshot; split <;> simp
@[simp] theorem endSnapshot_co (s : State) : (endSnapshot s).co = s.co := by unfold endSnapshot; split <;> simp
@[simp] theorem endSnapshot_hp (s : State) : (endSnapshot s).hp = s.hp := by unfold endSnapshot; split <;> simp
@[simp] theorem endSnapshot_free (s : State) : (endSnapshot s).free = s.free := by unfold endSnapshot; split <;> simp
@[simp] theorem endSnapshot_pending (s : State) : (endSnapshot s).pending = s.pending := by
  unfold endSnapshot; split <;> simp

/-! The tests of BA -/

@[simp] theorem testIdle_num (s : State) : (testIdle s).num = s.num := by unfold testIdle; (repeat' split) <;> rfl
@[simp] theorem testIdle_rate (s : State) : (testIdle s).rate = s.rate := by unfold testIdle; (repeat' split) <;> rfl
@[simp] theorem testIdle_inReset (s : State) : (testIdle s).inReset = s.inReset := by
  unfold testIdle; (repeat' split) <;> rfl
@[simp] theorem testIdle_inUse (s : State) : (testIdle s).inUse = s.inUse := by unfold testIdle; (repeat' split) <;> rfl
@[simp] theorem testIdle_table (s : State) : (testIdle s).table = s.table := by unfold testIdle; (repeat' split) <;> rfl
@[simp] theorem testIdle_watches (s : State) : (testIdle s).watches = s.watches := by
  unfold testIdle; (repeat' split) <;> rfl
@[simp] theorem testIdle_mc (s : State) : (testIdle s).mc = s.mc := by unfold testIdle; (repeat' split) <;> rfl
@[simp] theorem testIdle_tu (s : State) : (testIdle s).tu = s.tu := by unfold testIdle; (repeat' split) <;> rfl
@[simp] theorem testIdle_ac (s : State) : (testIdle s).ac = s.ac := by unfold testIdle; (repeat' split) <;> rfl
@[simp] theorem testIdle_lif (s : State) : (testIdle s).lif = s.lif := by unfold testIdle; (repeat' split) <;> rfl
@[simp] theorem testIdle_tm (s : State) : (testIdle s).tm = s.tm := by unfold testIdle; (repeat' split) <;> rfl
@[simp] theorem testIdle_co (s : State) : (testIdle s).co = s.co := by unfold testIdle; (repeat' split) <;> rfl
@[simp] theorem testIdle_hp (s : State) : (testIdle s).hp = s.hp := by unfold testIdle; (repeat' split) <;> rfl
@[simp] theorem testIdle_free (s : State) : (testIdle s).free = s.free := by unfold testIdle; (repeat' split) <;> rfl
@[simp] theorem testIdle_pending (s : State) : (testIdle s).pending = s.pending := by
  unfold testIdle; (repeat' split) <;> rfl

/-! The test for a release -/

@[simp] theorem testRelease_num (s : State) : (testRelease s).num = s.num := by unfold testRelease; split <;> simp
@[simp] theorem testRelease_rate (s : State) : (testRelease s).rate = s.rate := by unfold testRelease; split <;> simp
@[simp] theorem testRelease_inReset (s : State) : (testRelease s).inReset = s.inReset := by
  unfold testRelease; split <;> simp
@[simp] theorem testRelease_inUse (s : State) : (testRelease s).inUse = s.inUse := by unfold testRelease; split <;> simp
@[simp] theorem testRelease_table (s : State) : (testRelease s).table = s.table := by unfold testRelease; split <;> simp
@[simp] theorem testRelease_watches (s : State) : (testRelease s).watches = s.watches := by
  unfold testRelease; split <;> simp
@[simp] theorem testRelease_mc (s : State) : (testRelease s).mc = s.mc := by unfold testRelease; split <;> simp
@[simp] theorem testRelease_tu (s : State) : (testRelease s).tu = s.tu := by unfold testRelease; split <;> simp
@[simp] theorem testRelease_ac (s : State) : (testRelease s).ac = s.ac := by unfold testRelease; split <;> simp
@[simp] theorem testRelease_tm (s : State) : (testRelease s).tm = s.tm := by unfold testRelease; split <;> simp
@[simp] theorem testRelease_co (s : State) : (testRelease s).co = s.co := by unfold testRelease; split <;> simp
@[simp] theorem testRelease_hp (s : State) : (testRelease s).hp = s.hp := by unfold testRelease; split <;> simp
@[simp] theorem testRelease_free (s : State) : (testRelease s).free = s.free := by unfold testRelease; split <;> simp
@[simp] theorem testRelease_pending (s : State) : (testRelease s).pending = s.pending := by
  unfold testRelease; split <;> simp

/-! The report of levels at zero -/

@[simp] theorem reportZero_num (s : State) : (reportZero s).num = s.num := by unfold reportZero; split <;> simp
@[simp] theorem reportZero_rate (s : State) : (reportZero s).rate = s.rate := by unfold reportZero; split <;> simp
@[simp] theorem reportZero_inReset (s : State) : (reportZero s).inReset = s.inReset := by
  unfold reportZero; split <;> simp
@[simp] theorem reportZero_inUse (s : State) : (reportZero s).inUse = s.inUse := by unfold reportZero; split <;> simp
@[simp] theorem reportZero_table (s : State) : (reportZero s).table = s.table := by unfold reportZero; split <;> simp
@[simp] theorem reportZero_watches (s : State) : (reportZero s).watches = s.watches := by
  unfold reportZero; split <;> simp
@[simp] theorem reportZero_tu (s : State) : (reportZero s).tu = s.tu := by unfold reportZero; split <;> simp
@[simp] theorem reportZero_ac (s : State) : (reportZero s).ac = s.ac := by unfold reportZero; split <;> simp
@[simp] theorem reportZero_tm (s : State) : (reportZero s).tm = s.tm := by unfold reportZero; split <;> simp
@[simp] theorem reportZero_co (s : State) : (reportZero s).co = s.co := by unfold reportZero; split <;> simp
@[simp] theorem reportZero_hp (s : State) : (reportZero s).hp = s.hp := by unfold reportZero; split <;> simp
@[simp] theorem reportZero_free (s : State) : (reportZero s).free = s.free := by unfold reportZero; split <;> simp
@[simp] theorem reportZero_pending (s : State) : (reportZero s).pending = s.pending := by
  unfold reportZero; split <;> simp

/-! BA after a change of its inputs -/

@[simp] theorem refresh_num (s : State) : (refresh s).num = s.num := by simp [refresh]
@[simp] theorem refresh_rate (s : State) : (refresh s).rate = s.rate := by simp [refresh]
@[simp] theorem refresh_inReset (s : State) : (refresh s).inReset = s.inReset := by simp [refresh]
@[simp] theorem refresh_inUse (s : State) : (refresh s).inUse = s.inUse := by simp [refresh]
@[simp] theorem refresh_table (s : State) : (refresh s).table = s.table := by simp [refresh]
@[simp] theorem refresh_watches (s : State) : (refresh s).watches = s.watches := by simp [refresh]
@[simp] theorem refresh_tu (s : State) : (refresh s).tu = s.tu := by simp [refresh]
@[simp] theorem refresh_ac (s : State) : (refresh s).ac = s.ac := by simp [refresh]
@[simp] theorem refresh_tm (s : State) : (refresh s).tm = s.tm := by simp [refresh]
@[simp] theorem refresh_hp (s : State) : (refresh s).hp = s.hp := by simp [refresh]
@[simp] theorem refresh_free (s : State) : (refresh s).free = s.free := by simp [refresh]
@[simp] theorem refresh_pending (s : State) : (refresh s).pending = s.pending := by simp [refresh]

/-! The discard of the table -/

@[simp] theorem discardTable_num (s : State) : (discardTable s).num = s.num := by unfold discardTable; split <;> rfl
@[simp] theorem discardTable_rate (s : State) : (discardTable s).rate = s.rate := by unfold discardTable; split <;> rfl
@[simp] theorem discardTable_inReset (s : State) : (discardTable s).inReset = s.inReset := by
  unfold discardTable; split <;> rfl
@[simp] theorem discardTable_inUse (s : State) : (discardTable s).inUse = s.inUse := by
  unfold discardTable; split <;> rfl
@[simp] theorem discardTable_tm (s : State) : (discardTable s).tm = s.tm := by unfold discardTable; split <;> rfl
@[simp] theorem discardTable_co (s : State) : (discardTable s).co = s.co := by unfold discardTable; split <;> rfl
@[simp] theorem discardTable_hp (s : State) : (discardTable s).hp = s.hp := by unfold discardTable; split <;> rfl
@[simp] theorem discardTable_free (s : State) : (discardTable s).free = s.free := by unfold discardTable; split <;> rfl
@[simp] theorem discardTable_pending (s : State) : (discardTable s).pending = s.pending := by
  unfold discardTable; split <;> rfl

/-! Fields within the blocks -/

@[simp] theorem mcRequest_phase (b : Body) (s : State) : (mcRequest b s).mc.phase = s.mc.phase := by
  unfold mcRequest; split <;> rfl
@[simp] theorem reportZero_phase (s : State) : (reportZero s).mc.phase = s.mc.phase := by
  unfold reportZero; split <;> simp
@[simp] theorem refresh_phase (s : State) : (refresh s).mc.phase = s.mc.phase := by simp [refresh]
/-- The table is gone after its discard (R16). -/
@[simp] theorem discardTable_table (s : State) : (discardTable s).table = none := by
  unfold discardTable; split
  · assumption
  · rfl
/-- A refused or taken request of MC is in its hands: held, or in OQ. -/
theorem mcRequest_lif (b : Body) (s : State) : (mcRequest b s).lif = (s.lif.request b .mc).1 := by
  unfold mcRequest; split <;> simp_all

end Sys2Proof.Machine
end

