-- ==== Sys2Proof/Laws/Tables.lean ====
section
/-! SUPPORT. The lemmas of `tabulate`, of the byte helpers and of the updates of a table image. -/

namespace Sys2Proof.Machine

/-! ## Tables -/

@[simp] theorem tabulate_get (n : Nat) (f : Fin n → α) (i : Nat) (h : i < n) : (tabulate n f)[i] = f ⟨i, h⟩ := by
  simp [tabulate, Vector.getElem_mk]

@[simp] theorem tabulate_get_fin (n : Nat) (f : Fin n → α) (i : Fin n) : (tabulate n f)[i] = f i := by
  simp [Fin.getElem_fin]

/-- A table of what a vector holds is that vector. -/
@[simp] theorem tabulate_self (v : Vector α n) : tabulate n (fun i => v[i]) = v := by
  ext i h; simp

theorem mem_stations (k : Station) : k ∈ stations := by simp [stations]

@[simp] theorem stationOf_val (k : Station) : stationOf k.val = some k := by simp [stationOf, k.isLt]

theorem stationOf_some {n : Nat} {k : Station} (h : stationOf n = some k) : k.val = n := by
  unfold stationOf at h
  split at h
  · exact congrArg Fin.val (Option.some.inj h).symm
  · cases h

/-! ## Images -/

@[simp] theorem Image.setEntry_pool (img : Image) (k : Station) (e : Entry) : (img.setEntry k e).pool = img.pool := rfl
@[simp] theorem Image.setEntry_wait (img : Image) (k : Station) (e : Entry) : (img.setEntry k e).wait = img.wait := rfl
@[simp] theorem Image.setEntry_same (img : Image) (k : Station) (e : Entry) : (img.setEntry k e).entries[k] = e := by
  simp [Image.setEntry]
theorem Image.setEntry_other (img : Image) (k j : Station) (e : Entry) (h : j ≠ k) :
    (img.setEntry k e).entries[j] = img.entries[j] := by
  simp only [Image.setEntry, Fin.getElem_fin]
  exact Vector.getElem_set_ne _ _ (fun h' => h (Fin.ext h'.symm))
@[simp] theorem Image.addHolding_pool (img : Image) (k : Station) (u : Nat) : (img.addHolding k u).pool = img.pool := rfl
@[simp] theorem Image.addHolding_wait (img : Image) (k : Station) (u : Nat) : (img.addHolding k u).wait = img.wait := rfl
@[simp] theorem Image.addRecall_pool (img : Image) (k : Station) (u : Nat) : (img.addRecall k u).pool = img.pool := rfl
@[simp] theorem Image.addRecall_wait (img : Image) (k : Station) (u : Nat) : (img.addRecall k u).wait = img.wait := rfl

/-- Serving a list of services changes no record and no pool. -/
theorem Image.applyServices_rest (img : Image) (vs : List Service) :
    (img.applyServices vs).pool = img.pool ∧ (img.applyServices vs).wait = img.wait := by
  unfold Image.applyServices
  induction vs generalizing img with
  | nil => exact ⟨rfl, rfl⟩
  | cons v vs ih => exact ih (img.addHolding v.station v.units)

/-- Serving splits its units between the services and what is left. -/
theorem serveList_units (u : Nat) (ws : List WaitRecord) :
    ((serveList u ws).services.map (·.units)).sum + (serveList u ws).left = u := by
  induction ws generalizing u with
  | nil => simp [serveList]
  | cons w ws ih =>
    unfold serveList
    split
    · simp_all
    · split
      · have := ih (u - w.shortfall); simp; omega
      · simp

/-- What serving leaves of the list stands in the list served, in its order, by station. -/
theorem serveList_sublist (u : Nat) (ws : List WaitRecord) :
    ((serveList u ws).wait.map (·.station)).Sublist (ws.map (·.station)) := by
  induction ws generalizing u with
  | nil => simp [serveList]
  | cons w ws ih =>
    unfold serveList
    split
    · simp
    · split
      · exact (ih _).trans (List.sublist_cons_self _ _)
      · simp

/-- Units are left over only when no record is left waiting. -/
theorem serveList_left (u : Nat) (ws : List WaitRecord) (h : (serveList u ws).left ≠ 0) : (serveList u ws).wait = [] := by
  induction ws generalizing u with
  | nil => simp [serveList]
  | cons w ws ih =>
    unfold serveList at h ⊢
    split at h
    · simp at h
    · split at h
      · simp_all
      · simp at h

/-- The assignments of a distribution take no more than the need. -/
theorem distribute_sum (need : Nat) (cs : List (Station × Nat)) :
    ((distribute need cs).map (·.2)).sum = min need (cs.map (·.2)).sum := by
  induction cs generalizing need with
  | nil => simp [distribute]
  | cons c cs ih =>
    obtain ⟨j, av⟩ := c
    unfold distribute
    split
    · simp_all
    · have := ih (need - min av need); simp; omega

/-- No candidate is assigned more than its surplus. -/
theorem distribute_le (need : Nat) (cs : List (Station × Nat)) :
    ∀ a ∈ distribute need cs, ∃ c ∈ cs, c.1 = a.1 ∧ a.2 ≤ c.2 := by
  induction cs generalizing need with
  | nil => simp [distribute]
  | cons c cs ih =>
    obtain ⟨j, av⟩ := c
    intro a h
    unfold distribute at h
    split at h
    · simp at h
    · rcases List.mem_cons.1 h with rfl | h
      · exact ⟨(j, av), by simp, rfl, by simp⟩
      · obtain ⟨c, hc, e, l⟩ := ih _ a h
        exact ⟨c, by simp [hc], e, l⟩

end Sys2Proof.Machine
end

