-- ==== Sys2Proof/Laws/Terms.lean ====
section
/-! SUPPORT. The small lemmas of the terms of Safety.lean and of the microsecond, so that no proof unfolds them. -/

namespace Sys2Proof.Machine

@[simp] theorem completes_next (t : State) (p : State → Prop) : Completes (.next t) p ↔ p t := by simp [Completes]

/-! ## Requests made on a condition -/

@[simp] theorem Lif.requestIf_true (lif : Lif) (body : Body) (b : Block) :
    lif.requestIf true body b = ((lif.request body b).1, some (lif.request body b).2) := rfl
@[simp] theorem Lif.requestIf_false (lif : Lif) (body : Body) (b : Block) : lif.requestIf false body b = (lif, none) := rfl
@[simp] theorem ClaimSide.answered_none (c : ClaimSide) : c.answered Option.none = c := rfl
@[simp] theorem ReleaseSide.answered_none (r : ReleaseSide) : r.answered Option.none = r := rfl

@[simp] theorem has_nil (k : FrameKind) : has k [] = false := rfl
@[simp] theorem has_cons (k : FrameKind) (r : Request) (rs : List Request) :
    has k (r :: rs) = (r.body.kind == k || has k rs) := rfl
@[simp] theorem has_append (k : FrameKind) (rs qs : List Request) : has k (rs ++ qs) = (has k rs || has k qs) := by
  simp [has]

/-! ## Posts in order -/

@[simp] theorem Hp.postAll_nil (hp : Hp) : hp.postAll [] = hp := rfl
@[simp] theorem Hp.postAll_cons (hp : Hp) (e : Posted) (es : List Posted) :
    hp.postAll (e :: es) = (hp.post e.1 e.2.1 e.2.2.1 e.2.2.2).postAll es := rfl
@[simp] theorem Hp.postAll_append (hp : Hp) (es fs : List Posted) : hp.postAll (es ++ fs) = (hp.postAll es).postAll fs := by
  simp [Hp.postAll]

/-! ## Watches -/

/-- The debtor of the claims is the debtor of the model (R8). -/
theorem owes_eq_isDebtor (e : Entry) : owes e = e.isDebtor := by
  simp [owes, Entry.isDebtor, BEq.beq]

/-- A watch after a frame that is no own LAPSE of its entry (R48 to R50, R53). -/
theorem nextWatch_eq_watchAfter (s : State) (before after : Entry) (w : Watch) :
    nextWatch s before after w = watchAfter s false before after w := by
  cases w <;> simp [nextWatch, watchAfter, owes_eq_isDebtor, startWatch]

/-! ## Requests behind a head that has ended -/

/-- Nothing behind the head of an orderly OQ has begun (R145). -/
theorem Lif.Orderly.rest_not_begun {lif : Lif} {r : Request} {rest : List Request} (h : lif.Orderly)
    (hq : lif.queue = r :: rest) : ∀ q ∈ rest, q.inTransmission = false ∧ q.attempts = 0 := by
  simpa [hq] using h.behind

/-- The discard of the claims is the discard of the model (R144, R149). -/
theorem discarded_eq_discard (r : Request) : discarded r = r.discard := by
  unfold discarded Request.discard; split <;> rfl

/-- A request discarded before its first attempt has begun does not outlive a lost start, whatever the phase (R137, log 16). -/
theorem afterLostStart_discard (p : Phase) (r : Request) (h : r.inTransmission = false) :
    afterLostStart p r.discard = none := by
  simp [afterLostStart, Request.discard, h, Blocks.diff_self_isEmpty]

/-! ## One microsecond -/

/-- The period counter rises by one, or returns to 0 where it would reach the period (R183). -/
theorem advance_counter (s : State) :
    (advance s).co.counter = if s.inUse.period ≤ s.co.counter + 1 then 0 else s.co.counter + 1 := by
  simp [advance, boundaryDue]

/-- So it stays below the period in use (R182). -/
theorem advance_counter_lt (s : State) (h : 0 < s.inUse.period) : (advance s).co.counter < s.inUse.period := by
  rw [advance_counter]; split <;> omega

/-- A timer that runs one microsecond on (R62). -/
theorem tickTimer_eq_later (t : Option Timer) : tickTimer t = later t := rfl

/-- It has then reached its length exactly when it runs out with that microsecond. -/
theorem dueTimer_tickTimer (t : Option Timer) : dueTimer (tickTimer t) = true ↔ RunsOut t := by
  cases t <;> simp [tickTimer, dueTimer, RunsOut, Timer.tick]

@[simp] theorem mem_whenDue (b : Bool) (c d : Instr) : d ∈ whenDue b c ↔ b = true ∧ d = c := by
  cases b <;> simp [whenDue]

end Sys2Proof.Machine
end

