-- ==== Sys2Proof/Tests/Slice0.lean ====
section
/-! SUPPORT. Tests: the ill-formed commands, the spec's worked examples, one or two effects of each command, and for each
statement of the Obligations file states and operands that meet its hypotheses. Expected values come from spec/. -/

namespace Sys2Proof.Tests

open Sys2Proof Sys2Proof.Machine

set_option Elab.async false

/-! ## Small states -/

/-- The state after a command, when it completes. -/
def run (c : Instr) (s : State) : Option State :=
  match exec c s with
  | .next t => some t
  | _ => none

/-- The port in this transaction state. -/
def port (p : Port) (s : State) : State := { s with hp := { s.hp with port := p, csLow := true } }

/-- A command byte is next. -/
def ready (s : State) : State := port .command s

/-- The station in this phase. -/
def inPhase (p : Phase) (s : State) : State := { s with mc := { s.mc with phase := p } }

/-- The station holds this image at N = 900 with digest 0x5C17, in this phase. -/
def holds (img : Image) (p : Phase) (s : State) : State :=
  inPhase p { s with table := some { image := img, n := 900, digest := 0x5C17 } }

/-- A PRESENT entry. -/
def present (floor holding recallDue : Nat) : Entry :=
  { state := .present, floor := floor, holding := holding, recallDue := recallDue }

/-- P = 100, interval 100 ms; station 0 with floor 10 and holding 30, station 1 with floor 20 and holding 60; 10 free. -/
def group : Image :=
  ((Image.empty.setPool 100 100).setEntry 0 (present 10 30 0)).setEntry 1 (present 20 60 0)

/-- Station 0 is JOINED in that group. -/
def member : State := holds group .joined State.reset

/-- A request of a block. -/
def req (body : Body) (b : Block) : Request := Request.new body b

/-- A request in transmission after some attempts. -/
def begun (r : Request) (attempts : Nat) : Request := { r with inTransmission := true, attempts := attempts }

/-- OQ holds these requests. -/
def queue (rs : List Request) (s : State) : State := { s with lif := { s.lif with queue := rs } }

/-- The line in this state. -/
def line (l : LineState) (s : State) : State := { s with lif := { s.lif with line := l } }

/-- A frame at N = 900 with digest 0x5C17. -/
def frame (k : Station) (b : Body) : Frame := { sender := k, order := 900, digest := 0x5C17, body := b }

/-- Its characters as a receiver reads them. -/
def chars (k : Station) (b : Body) : List RxChar := cleanChars (encodeFrame (frame k b))

/-- An attempt of this station with this request is on the line. -/
def sends (r : Request) (ended : Bool) (s : State) : State :=
  line (.sending { bytes := encodeFrame (frame s.num r.body), senderByteEnded := ended }) (queue [r] s)

/-- A timer at its last microsecond. -/
def almost : Option Timer := some { length := 100000, run := 99999 }

/-! ## Well-formedness: each check refuses -/

theorem test_refuses_num_32 : (Instr.resetEnd 32 0).wellFormed = false := by decide
theorem test_refuses_rate_4 : (Instr.resetEnd 31 4).wellFormed = false := by decide
theorem test_refuses_known_code : (Instr.unknownCommand 0x20).wellFormed = false := by decide
theorem test_refuses_entry_byte : (Instr.readEntry 256).wellFormed = false := by decide
theorem test_refuses_channel_byte : (Instr.readChannel 256).wellFormed = false := by decide
theorem test_refuses_wide_word :
    (Instr.writeConfig { ConfigBlock.defaults with pool := 65536 }).wellFormed = false := by decide
theorem test_refuses_wide_threshold :
    (Instr.writeConfig { ConfigBlock.defaults with hot := 256 }).wellFormed = false := by decide
theorem test_refuses_demand_channel : (Instr.setDemand 256 0).wellFormed = false := by decide
theorem test_refuses_wide_demand : (Instr.setDemand 0 65536).wellFormed = false := by decide
theorem test_refuses_fault_channel : (Instr.clearFault 256).wellFormed = false := by decide
theorem test_refuses_no_characters : (Instr.frameReceived [] false).wellFormed = false := by decide

/-! ## The words of the table: no row gives bits -/

theorem test_no_word_decodes : decodeTableWord 16 0x60 = none := rfl

/-! ## Formats: the spec's own examples -/

/-- R13: over the nine bytes 0x31 to 0x39 the CRC is 0x29B1, over none 0xFFFF. -/
theorem test_crc_of_digits :
    crc16 [0x31, 0x32, 0x33, 0x34, 0x35, 0x36, 0x37, 0x38, 0x39] = 0x29B1 ∧ crc16 [] = 0xFFFF := by decide +kernel

/-- Chapter 7: the CLAIM by station 5 of delta 4 at N = 902 and digest 0x5C17. -/
theorem test_claim_characters :
    encodeContent { sender := 5, order := 902, digest := 0x5C17, body := .claim 4 } =
      [0x05, 0x21, 0x03, 0x86, 0x5C, 0x17, 0x00, 0x04] := by decide +kernel

/-- Chapter 7: the JOIN with floor 10, pool 50 and interval 100 ms. -/
theorem test_join_body : encodeBody (.join 10 50 100) = [0x00, 0x0A, 0x00, 0x32, 0x00, 0x64] := by decide +kernel

/-- Section 6.8: the slots of stations 5, 12 and 3 after a frame of station 3. -/
theorem test_slots_after_station_3 :
    ([5, 12, 3] : List Station).map
        (fun n => ownSlot { State.reset with num := n, lif := { State.reset.lif with lastSender := 3 } }) =
      [1, 8, 31] := by decide +kernel

/-- Section 6.9: of sender bytes 0x09 and 0x0A on one line, which reads 0x08 up to the loss, 0x0A has lost and 0x09 not. R127,
R137: a stop bit, sent recessive, that reads dominant has lost too. -/
theorem test_lower_number_keeps_line :
    lostBits 0x0A ⟨0x09, true⟩ = true ∧ lostBits 0x09 ⟨0x09, true⟩ = false ∧ lostBits 0x09 ⟨0x09, false⟩ = true := by
  decide

/-- Channel 0 with this level applied, at this rating and period. -/
def drives (level rating period : Nat) : State :=
  { State.reset with
    inUse := { ConfigBlock.defaults with rating0 := rating, period := period }
    co := { State.reset.co with
      channels := State.reset.co.channels.set 0 { Load.reset false with applied := level } } }

/-- R184: floor(100 × 1000 / 300) = 333 µs, 20 of a rating of 1000 in 50 µs is 1 µs, and a level at its rating is high
throughout. -/
theorem test_on_times :
    onTime (drives 100 300 1000) 0 = 333 ∧ onTime (drives 20 1000 50) 0 = 1 ∧ onTime (drives 300 300 1000) 0 = 1000 := by
  decide +kernel

/-! ## The share table: the worked sequences of section 2.8 -/

/-- Section 2.8.1: P = 20, floors 5, 5, 6, nobody holding anything. -/
def three : Image :=
  (((Image.empty.setPool 20 100).setEntry 0 (present 5 0 0)).setEntry 1 (present 5 0 0)).setEntry 2 (present 6 0 0)

/-- Section 2.8.1 after the three claims and after the release: holdings, A's debt, wait list. -/
theorem test_three_stations_and_one_recall :
    let c := (((three.apply 0 (.claim 12)).1.apply 1 (.claim 8)).1.apply 2 (.claim 6)).1
    let r := (c.apply 0 (.release 6)).1
    ([0, 1, 2] : List Station).map (fun k => c.entries[k].holding) = [12, 8, 0] ∧ c.entries[0].recallDue = 6 ∧
      c.wait = [{ station := 2, shortfall := 6 }] ∧
      ([0, 1, 2] : List Station).map (fun k => r.entries[k].holding) = [6, 8, 6] ∧ r.entries[0].recallDue = 0 ∧
      r.wait = [] := by decide +kernel

/-- Section 2.8.2: P = 30, stations 4, 9, 11 and 20. -/
def four : Image :=
  ((((Image.empty.setPool 30 100).setEntry 4 (present 6 14 0)).setEntry 9 (present 6 12 0)).setEntry 11
    (present 8 4 0)).setEntry 20 (present 10 0 0)

/-- Section 2.8.2 steps 1 to 5. -/
def fourAfter5 : Image :=
  (((((four.apply 20 (.claim 10)).1.apply 11 (.claim 6)).1.apply 9 (.release 6)).1.apply 4 (.claim 3)).1.apply 4
    (.release 5)).1

/-- Section 2.8.2 after step 5: holdings, station 4's debt, wait list. -/
theorem test_two_waiters_served :
    ([4, 9, 11, 20] : List Station).map (fun k => fourAfter5.entries[k].holding) = [9, 6, 5, 10] ∧
      fourAfter5.entries[4].recallDue = 3 ∧ fourAfter5.wait = [{ station := 11, shortfall := 3 }] := by decide +kernel

/-- Section 2.8.2 steps 6 and 7: the LAPSE keeps the holding, the FREE serves it. -/
theorem test_defaulter_lapsed_and_freed :
    let l := (fourAfter5.apply 9 (.lapse 4 2)).1
    let f := (l.apply 9 (.free 4)).1
    l.entries[4] = { state := .lapsed, floor := 6, holding := 9, recallDue := 0 } ∧ f.entries[4] = Entry.empty ∧
      f.entries[11].holding = 8 ∧ f.wait = [] ∧ f.freeUnits = 6 := by decide +kernel

/-- Section 2.3.1: two candidates of surplus 5, need 8: the higher number first. -/
theorem test_tie_takes_higher_number :
    let img := ((Image.empty.setPool 100 100).setEntry 3 (present 0 5 0)).setEntry 7 (present 0 5 0)
    (({ img with wait := [{ station := 1, shortfall := 8 }] } : Image).assignRecall 1).2 = [(7, 5), (3, 3)] := by
  decide +kernel

/-! ## Resets -/

/-- R216, R206: a reset in force holds every output low; its end samples the straps. -/
theorem test_reset_samples_straps :
    ((run .resetnLow member).bind (run (.resetEnd 31 3))).map (fun t => (t.num, t.rate, t.table, t.mc.phase)) =
      some (31, 3, none, .offline) := by decide +kernel
theorem test_power_on_reset_holds :
    (run .powerOnReset (drives 100 100 1000)).map (fun t => (t.inReset, t.outHigh 0)) = some (true, false) := by
  decide +kernel
/-- R217: RESET discards the table and is answered ACCEPTED. -/
theorem test_host_reset :
    (run .reset (ready member)).map (fun t => (t.table, t.mc.cause, t.hp.port)) =
      some (none, .reset, .response [0x00]) := by decide +kernel

/-! ## Host port -/

/-- R196: a transaction from chip select to chip select. -/
theorem test_transaction_states :
    (run .chipSelectFall State.reset).map (fun t => t.hp.port) = some .command ∧
      (run .chipSelectRise (port .drain State.reset)).map (fun t => (t.hp.port, t.hp.dataOut)) = some (.idle, none) := by
  decide +kernel
/-- R196: a byte that is no code is answered REFUSED_RANGE, whether it comes as a byte or as its own row. -/
theorem test_unknown_command :
    (run (.unknownCommand 0x27) (ready State.reset)).map (fun t => t.hp.port) = some (.response [0x82]) ∧
      run (.hostByteComplete 0x27) (ready State.reset) = run (.unknownCommand 0x27) (ready State.reset) := by
  decide +kernel
/-- R158: own number, phase, cause and table held stand first in the status record. -/
theorem test_read_status :
    (run .readStatus (ready member)).map (fun t =>
        match t.hp.port with
        | .response bs => (bs.length, bs.take 9)
        | _ => (0, [])) =
      some (61, [0x00, 0x00, 0x05, 0x00, 0x01, 0x00, 0x64, 0x00, 0x64]) := by decide +kernel
/-- R157: entry 1 of the group, PRESENT, floor 20, holding 60, no debt, not waiting, N and digest. -/
theorem test_read_entry :
    (run (.readEntry 1) (ready member)).map (fun t => t.hp.port) =
      some (.response [0x00, 1, 1, 0, 20, 0, 60, 0, 0, 0xFF, 0x03, 0x84, 0x5C, 0x17]) := by decide +kernel
theorem test_read_entry_32_refused :
    (run (.readEntry 32) (ready member)).map (fun t => t.hp.port) = some (.response [0x82]) := by decide +kernel
/-- R29: no table, EMPTY. -/
theorem test_read_wait_list_empty :
    (run .readWaitList (ready State.reset)).map (fun t => t.hp.port) = some (.response [0x90]) := by decide +kernel
/-- R157: channel 0 at rating 300 with level 100 applied. -/
theorem test_read_channel :
    (run (.readChannel 0) (ready (drives 100 300 1000))).map (fun t => t.hp.port) =
      some (.response [0x00, 0, 0x01, 0x2C, 0, 0, 0, 0, 0, 100, 0, 0]) := by decide +kernel
/-- R203: the defaults, with hot 100 °C as 140. -/
theorem test_read_config :
    (run .readConfig (ready State.reset)).map (fun t => t.hp.port) =
      some (.response [0x00, 0, 100, 0, 0, 0, 100, 0, 40, 0, 200, 0x01, 0xF4, 0x03, 0xE8, 0, 100, 0, 100, 0, 100, 0, 100,
        140, 130, 165]) := by decide +kernel

/-- Section 10.8: 14 records held, PHASE, THERMAL and QUEUE enabled, PEERS set. -/
def busy : State :=
  { State.reset with
    hp := { State.reset.hp with
      events := List.replicate 14 { kind := .phase, station := 0, amount := 0, cause := 0, lostAfter := false }
      flags := 0x04, enables := 0xA8 } }

/-- Section 10.8: the two posts that fit and the two that are dropped. -/
def overflowed : State :=
  post .thermal 0 142 1 (post .granted 0 4 1 (post .peerJoined 11 6 0 (post .peerLapsed 9 7 1 busy)))

theorem test_overflow_flags_and_attn :
    (overflowed.hp.events.length, overflowed.hp.events.getLast?.map (·.lostAfter), overflowed.hp.flags, overflowed.attn,
      busy.attn) = (16, some true, 0xA5, true, false) := by decide +kernel
theorem test_read_flags :
    (run .readFlags (ready overflowed)).map (fun t => t.hp.port) = some (.response [0x00, 0xA5, 0xA8]) := by
  decide +kernel
theorem test_clear_flags :
    (run (.clearFlags 0xA5) (ready overflowed)).map (fun t => (t.hp.flags, t.attn)) = some (0, false) := by
  decide +kernel
/-- R214: an enable written for a flag already set asserts ATTN. -/
theorem test_write_enables :
    (run (.writeEnables 0x04) (ready busy)).map (fun t => t.attn) = some true := by decide +kernel
/-- R209: the record at the head leaves the queue. -/
theorem test_pop_event :
    (run .popEvent (ready (post .peerJoined 11 6 0 State.reset))).map (fun t => (t.hp.port, t.hp.events)) =
      some (.response [0x00, 0x07, 11, 0, 6, 0, 0, 0], []) := by decide +kernel
/-- R202, R204: an out-of-range block is stored, and START finds it. -/
theorem test_bad_config_found_at_start :
    ((run (.writeConfig { ConfigBlock.defaults with pool := 0 }) (ready State.reset)).bind
        (fun t => run .start (ready t))).map (fun t => t.hp.port) = some (.response [0x83]) := by decide +kernel
theorem test_set_demand :
    (run (.setDemand 3 1000) (ready State.reset)).map (fun t => (t.co.channels[3].demand, t.ba.demand)) =
      some (1000, 100) := by decide +kernel

/-- Section 9.8: demands 6, 8, 5 and 4 under a cap of 20, staged and applied as 6, 8, 5 and 1. -/
def loaded : State :=
  refresh
    { holds ((Image.empty.setPool 20 100).setEntry 0 (present 12 20 0)) .joined State.reset with
      co := { State.reset.co with
        channels := ⟨#[{ Load.reset false with demand := 6, applied := 6 }, { Load.reset false with demand := 8, applied := 8 },
          { Load.reset false with demand := 5, applied := 5 }, { Load.reset false with demand := 4, applied := 1 }], rfl⟩ }
      ba := { State.reset.ba with boundarySeen := true } }

/-- Section 9.8: D, and the staged and applied levels. -/
def levels (s : State) : Nat × List Nat × List Nat :=
  (s.ba.demand, s.co.channels.toList.map (·.staged), s.co.channels.toList.map (·.applied))

theorem test_fault_input_forces_zero :
    levels loaded = (23, [6, 8, 5, 1], [6, 8, 5, 1]) ∧
      (run (.faultInputAsserted 1) loaded).map levels = some (15, [6, 0, 5, 4], [6, 0, 5, 1]) := by decide +kernel
theorem test_fault_cleared_after_release :
    ((((run (.faultInputAsserted 1) loaded).bind (run .periodBoundary)).bind
        (run (.faultInputReleased 1))).bind (fun t => run (.clearFault 1) (ready t))).map
        (fun t => (t.hp.port, levels t)) =
      some (.response [0x00], 23, [6, 8, 5, 1], [6, 0, 5, 4]) := by decide +kernel
theorem test_clear_fault_while_asserted :
    ((run (.faultInputAsserted 1) loaded).bind (fun t => run (.clearFault 1) (ready t))).map (fun t => t.hp.port) =
      some (.response [0x85]) := by decide +kernel
/-- R64: LISTEN with the listen timer at 5 × 100 ms. -/
theorem test_start :
    (run .start (ready State.reset)).map (fun t => (t.mc.phase, t.mc.cause, t.mc.listen)) =
      some (.listen, .started, some { length := 500000, run := 0 }) := by decide +kernel

/-! ## Share line -/

/-- R135: a grid acquired at RATE 0 puts slot 0 one character time, 80 µs, into the rotation. -/
theorem test_grid : (run .gridAcquired State.reset).map (fun t => t.lif.line) = some (.slots 80) := by decide +kernel
/-- R129, R131: the sender byte of a truncated frame sets L. -/
theorem test_truncated_sets_last_sender :
    (run (.frameReceptionStart ⟨7, true⟩) (line (.slots 80) State.reset)).map (fun t => t.lif.lastSender) = some 7 ∧
      (run (.truncatedFrame ⟨7, true⟩) State.reset).map (fun t => t.lif.lastSender) = some 7 := by decide +kernel
/-- R139, R140, R164: the own CLAIM is filled with N, the digest and Q: D = 40 against 30 held with free units shown. -/
theorem test_attempt_fills_claim :
    (run .attemptStart (line (.slots 80) (queue [req (.claim 0) .ba]
        { member with ba := { member.ba with demand := 40 } }))).map (fun t =>
          match t.lif.line with
          | .sending a => a.bytes.take 8
          | _ => []) =
      some [0x00, 0x21, 0x03, 0x84, 0x5C, 0x17, 0x00, 0x0A] := by decide +kernel
/-- R140: with nothing to claim the request is withdrawn and no frame starts. -/
theorem test_zero_claim_withdrawn :
    (run .attemptStart (line (.slots 80) (queue [req (.claim 0) .ba] member))).map
        (fun t => (t.lif.queue, t.lif.line)) = some ([], .slots 80) := by decide +kernel
/-- R137: a lost start counts no attempt, and the winner's sender byte sets L at its first character. R144, R149: a JOIN in its
first sender byte at an entry to OFFLINE is gone when that start is lost, after a START too. -/
theorem test_lost_start :
    (run .lostStart (sends (req .present .mc) false member)).map (fun t => t.lif.queue) = some [req .present .mc] ∧
      ((run .lostStart (sends (req .present .mc) false member)).bind (run (.frameReceptionStart ⟨4, true⟩))).map
        (fun t => t.lif.lastSender) = some 4 ∧
      (((run .stop (ready (sends (req (.join 0 100 100) .mc) false (holds Image.empty .joining State.reset)))).bind
        (fun t => run .start (ready t))).bind (run .lostStart)).map (fun t => (t.mc.phase, t.lif.queue)) =
        some (.listen, []) := by decide +kernel
/-- R87, R141, R148 (log 38): a STOP in the sender byte of the LEAVE of R71 wants that LEAVE, and a lost start leaves it. -/
theorem test_stop_keeps_leave_after_lost_start :
    ((run .stop (ready (sends (req .leave .mc) false (inPhase .joining member)))).bind (run .lostStart)).map
        (fun t => (t.mc.phase, t.lif.queue.map (·.body))) = some (.leaving, [.leave]) := by decide +kernel
theorem test_sender_byte_end :
    (run .senderByteEnd (sends (req .present .mc) false member)).map
        (fun t => (t.lif.lastSender, t.lif.queue.map (·.inTransmission))) = some (0, [true]) := by decide +kernel
/-- R143, R167: the eighth void attempt posts FRAME_ABANDONED, and the claim side holds off for 100 ms, in LEAVING too. -/
theorem test_request_abandoned :
    (run .requestAbandoned (sends (begun (req (.claim 5) .ba) 7) true member)).map
        (fun t => (t.hp.events.map (fun e => (e.kind, e.amount)), t.ba.claim)) =
      some ([(.frameAbandoned, 8)], .holdoff) ∧
      (run .requestAbandoned (sends (begun (req (.claim 5) .ba) 7) true (inPhase .leaving member))).map
        (fun t => (t.ba.claim, t.ba.holdoff)) = some (.holdoff, startMs 100) := by decide +kernel
/-- R134: the eighth failure in a row: OUT with LINE_FAULT, a LEAVE requested. -/
theorem test_self_objection_limit :
    (run (.selfObjectionLimit .check) { member with lif := { member.lif with selfObjection := 7 } }).map
        (fun t => (t.mc.phase, t.mc.cause, t.lif.queue.map (·.body))) = some (.out, .lineFault, [.leave]) := by
  decide +kernel

/-! ## Timers -/

/-- MC with one of its timers running. -/
def listening : State := { inPhase .listen State.reset with mc := { (inPhase .listen State.reset).mc with listen := almost } }

theorem test_listen_expiry_founds :
    (run .listenTimerExpiry listening).map (fun t => (t.mc.phase, t.table.map (·.n), t.lif.queue.map (·.body))) =
      some (.founding, some 0, [.join 0 100 100]) := by decide +kernel
theorem test_presence_expiry :
    (run .presenceTimerExpiry { member with mc := { member.mc with presence := almost } }).map
        (fun t => t.lif.queue.map (·.body)) = some [.present] := by decide +kernel
theorem test_last_heard_expiry :
    (run (.lastHeardTimerExpiry 1)
        { member with mc := { member.mc with lastHeard := member.mc.lastHeard.set 1 almost } }).map
        (fun t => t.lif.queue.map (·.body)) = some [.lapse 1 1] := by decide +kernel
theorem test_quarantine_expiry :
    (run (.quarantineTimerExpiry 31)
        { member with mc := { member.mc with quarantine := member.mc.quarantine.set 31 almost } }).map
        (fun t => t.lif.queue.map (·.body)) = some [.free 31] := by decide +kernel
/-- R92, R93: the rejoin timer ends OUT in LISTEN, and in FAULT when the line-fault OUT count is 3. -/
def gone (lineFaults : Nat) : State :=
  { inPhase .out State.reset with
    mc := { (inPhase .out State.reset).mc with rejoin := almost }
    lif := { State.reset.lif with lineFaultOut := lineFaults } }

theorem test_rejoin_expiry :
    (run .rejoinTimerExpiry (gone 2)).map (fun t => t.mc.phase) = some .listen ∧
      (run .rejoinTimerExpiry (gone 3)).map (fun t => t.mc.phase) = some .fault := by decide +kernel
theorem test_recall_expiry :
    (run (.recallTimerExpiry 1)
        { member with watches := member.watches.set 1 (.timing { length := 200000, run := 199999 }) }).map
        (fun t => (t.lif.queue.map (·.body), t.watches[1])) = some ([.lapse 1 2], .requested) := by decide +kernel

/-- COLLECTING in attempt `r`. -/
def collecting (r : Nat) : State :=
  { inPhase .syncing State.reset with
    tu := { State.reset.tu with joiner := .collecting, attempt := r, sync := almost } }

/-- R112: the third failure is the last. -/
theorem test_sync_expiry :
    (run .syncTimerExpiry (collecting 1)).map (fun t => (t.tu.attempt, t.lif.queue.map (·.body))) =
        some (2, [.syncreq 2 100]) ∧
      (run .syncTimerExpiry (collecting 2)).map (fun t => (t.mc.phase, t.mc.cause)) = some (.fault, .syncFailed) := by
  decide +kernel

/-- In doubt about station 1. -/
def doubting : State := { member with ac := { member.ac with doubt := some 1, timer := almost } }

theorem test_doubt_expiry :
    (run .doubtTimerExpiry doubting).map (fun t => (t.mc.phase, t.mc.cause, t.table)) = some (.out, .diverged, none) := by
  decide +kernel
/-- R165, R170: holding 30 with nothing demanded and the mark set: all 30 are given back. -/
theorem test_release_idle_expiry :
    (run .releaseIdleTimerExpiry { member with ba := { member.ba with idleTimer := almost } }).map
        (fun t => (t.ba.idleMark, t.ba.release, intendedRelease t)) = some (true, .queued, 30) := by decide +kernel
/-- R165, R170: a shrink report finds a HELD release with nothing to give back and Q = 10: the release is dropped and the claim
requested. -/
theorem test_dropped_release_lets_claim :
    let t := shrink
      { member with
        ba := { member.ba with demand := 40, release := .held }, lif := { member.lif with waiting := .only .ba } }
    t.ba.release = .none ∧ t.ba.claim = .queued ∧ t.lif.queue.map (·.body) = [.claim 0] := by decide +kernel
theorem test_holdoff_expiry :
    (run .holdoffTimerExpiry { member with ba := { member.ba with holdoff := almost, claim := .holdoff } }).map
        (fun t => t.ba.claim) = some .none := by decide +kernel

/-! ## Loads -/

/-- R179, section 8.7.3: 101 °C enters DERATED, 125 °C enters CUT and LEAVING. -/
theorem test_thermal_sample :
    (run (.thermalSample 101) member).map (fun t => t.tm.state) = some .derated ∧
      (run (.thermalSample 125) member).map (fun t => (t.tm.state, t.mc.phase)) = some (.cut, .leaving) := by
  decide +kernel
/-- R183, R186: the staged levels are applied together and the counter returns to 0. -/
theorem test_boundary :
    (run .periodBoundary { loaded with
        co := { channels := loaded.co.channels.map (fun c => { c with applied := 0 }), counter := 999 } }).map
        (fun t => ((levels t).2.2, t.co.counter)) = some ([6, 8, 5, 1], 0) := by decide +kernel
/-- Log 1, R183: the microsecond in which the counter would reach 1000 takes it to 0 and brings the boundary; the one before
does neither. -/
theorem test_tick_brings_boundary :
    let at_ := fun (n : Nat) => tick { State.reset with co := { State.reset.co with counter := n } }
    (at_ 999).pending = [.periodBoundary] ∧ (at_ 999).co.counter = 0 ∧ (at_ 998).pending = [] ∧
      (at_ 998).co.counter = 999 := by
  decide +kernel


/-! ## Witnesses: states and operands that meet the hypotheses of a statement, clause by clause -/

/-- The power-on state while a reset is in force. -/
def inReset : State := { State.reset with inReset := true }

/-- TM is in CUT. -/
def cut (s : State) : State := { s with tm := { s.tm with state := .cut } }

/-- Another stored block. -/
def stores (b : ConfigBlock) (s : State) : State := { s with hp := { s.hp with stored := b } }

/-- Station 0 in JOINING, its entry PRESENT. -/
def joining : State := inPhase .joining member

/-- Channel 3 with this mark and this fault input. -/
def marked (faulted input : Bool) : State :=
  { State.reset with
    co := { State.reset.co with
      channels := State.reset.co.channels.set 3 { Load.reset input with faulted := faulted } } }

/-- The own attempt with this request at the head, its sender byte ended, in this state. -/
def attempt (r : Request) (s : State) : Attempt := { bytes := encodeFrame (frame s.num r.body), senderByteEnded := true }

theorem witness_IdleStepIsOneMicrosecond :
    State.reset.pending = [] ∧ State.reset.inReset = false ∧ RunsOut almost :=
  ⟨rfl, rfl, ⟨_, rfl, by decide⟩⟩
theorem witness_QueueAndStrapsKept : ∀ n r, Instr.start ≠ .resetEnd n r := nofun
theorem witness_ResetHoldsEveryBlock :
    inReset.inReset = true ∧ Instr.start ≠ .powerOnReset ∧ Instr.start ≠ .resetnLow ∧
      ∀ n r, Instr.start ≠ .resetEnd n r :=
  ⟨rfl, nofun, nofun, nofun⟩
theorem witness_ResetEndGivesResetState : inReset.inReset = true := rfl
theorem witness_HostResetKeepsConfiguration : portReady 0x6F [] (ready member) = true := by decide +kernel
theorem witness_ChipSelectFramesTransaction :
    State.reset.inReset = false ∧ State.reset.hp.csLow = false ∧ State.reset.hp.port = .idle ∧
      { State.reset.hp with port := .drain }.csLow = false ∧ { State.reset.hp with port := .drain }.port ≠ .idle ∧
      (ready member).hp.csLow = true := by decide +kernel
theorem witness_CommandByteTakesCommand :
    (ready member).inReset = false ∧ (ready member).hp.port = .command ∧
      ∀ b ∈ ([0x00, 0x1F, 0x27, 0x3F, 0x45, 0x5F, 0x62, 0x6E, 0x70, 0xFF] : List Byte), b ∉ knownCodes := by
  decide +kernel
theorem witness_ParameterByteTakesCommand :
    (port (.parameters 0x21 []) member).inReset = false ∧
      (port (.parameters 0x21 []) member).hp.port = .parameters 0x21 [] ∧
      (port (.parameters 0x41 [0, 3]) member).hp.port = .parameters 0x41 [0, 3] ∧
      (List.replicate 24 (0 : Byte)).length = 24 ∧ (List.replicate 23 (0 : Byte)).length < 24 ∧
      ([0] : List Byte).length < 2 := by decide +kernel
theorem witness_ResponseClockedOutThenZeros :
    (port (.response [0x00, 0x05]) member).inReset = false ∧
      (port (.response [0x00, 0x05]) member).hp.port = .response [0x00, 0x05] ∧ ([0x00, 0x05] : List Byte) ≠ [] ∧
      ([0xAA, 0x55] : List Byte).length = ([0x00, 0x05] : List Byte).length := by decide +kernel

/-- A disagreement record, a snapshot and a doubt timer held. -/
def told : State :=
  { queue [req .present .mc] doubting with
    ac := { doubting.ac with
      last := some { sender := 1, kind := .present, order := 900, digest := 0, localN := 900, localDigest := 0x5C17,
                     mismatch := .digest } }
    tu := { doubting.tu with
      snapshot := some { joiner := 2, base := 900, image := group, digest := 0x5C17, next := 4 } } }

theorem witness_ReadStatusAnswersRecord :
    portReady 0x20 [] (ready told) = true ∧ told.table.isSome = true ∧ told.tu.snapshot.isSome = true ∧
      told.ac.timer.isSome = true ∧ told.ac.last.isSome = true ∧ told.lif.queue ≠ [] ∧
      portReady 0x20 [] (ready State.reset) = true ∧ State.reset.table = none ∧ State.reset.ac.timer = none ∧
      State.reset.ac.last = none ∧ State.reset.lif.queue = [] := by decide +kernel
theorem witness_ReadsAnswerRecords :
    portReady 0x21 [loByte 32] (ready member) = true ∧ portReady 0x21 [loByte 31] (ready member) = true ∧
      (31 : Nat) = (31 : Station).val ∧ member.table.isSome = true ∧ State.reset.table = none ∧
      portReady 0x22 [] (ready State.reset) = true ∧ portReady 0x22 [] (ready member) = true ∧
      portReady 0x23 [loByte 4] (ready member) = true ∧ portReady 0x23 [loByte 3] (ready member) = true ∧
      (3 : Nat) = (3 : Channel).val ∧ portReady 0x24 [] (ready member) = true ∧
      portReady 0x25 [] (ready member) = true := by decide +kernel
theorem witness_PopEventTakesHead :
    portReady 0x26 [] (ready State.reset) = true ∧ State.reset.hp.events = [] ∧
      portReady 0x26 [] (ready busy) = true ∧ busy.hp.events ≠ [] ∧ busy.hp.events.length < 16 ∧
      16 ≤ overflowed.hp.events.length ∧
      ∃ e ∈ overflowed.hp.events, overflowed.hp.events = overflowed.hp.events.dropLast ++ [e] := by decide +kernel
theorem witness_WriteConfigStoresBlock :
    portReady 0x40 (configBytes .defaults) (ready State.reset) = true ∧ State.reset.mc.phase = .offline ∧
      portReady 0x40 (configBytes .defaults) (ready (inPhase .fault State.reset)) = true ∧
      portReady 0x40 (configBytes .defaults) (ready member) = true ∧ member.mc.phase ≠ .offline ∧
      member.mc.phase ≠ .fault ∧
      (run (.writeConfig { ConfigBlock.defaults with pool := 9 }) (ready State.reset)).map (·.hp.stored) ≠
        some State.reset.hp.stored := by decide +kernel
theorem witness_StartChecksEveryField :
    portReady 0x60 [] (ready (stores { ConfigBlock.defaults with pool := 4001 } State.reset)) = true ∧
      (stores { ConfigBlock.defaults with pool := 4001 } State.reset).mc.phase = .offline ∧
      ¬(stores { ConfigBlock.defaults with pool := 4001 } State.reset).hp.stored.pool ≤ 4000 := by decide +kernel
theorem witness_SetDemandStoresAndRestages :
    portReady 0x41 (loByte 4 :: bytes2 1000) (ready member) = true ∧ 4 ≤ 4 ∧
      portReady 0x41 (loByte 3 :: bytes2 1001) (ready member) = true ∧ 1000 < 1001 ∧
      portReady 0x41 (loByte 3 :: bytes2 1000) (ready member) = true ∧ (3 : Nat) = (3 : Channel).val ∧ 1000 ≤ 1000 := by
  decide +kernel
theorem witness_FlagsAndEnablesWritten :
    portReady 0x42 [0xFF] (ready busy) = true ∧ portReady 0x43 [0x80] (ready overflowed) = true := by decide +kernel
theorem witness_ClearFaultActsByMarkAndInput :
    portReady 0x44 [loByte 4] (ready (marked true true)) = true ∧
      portReady 0x44 [loByte 3] (ready (marked true true)) = true ∧ (3 : Nat) = (3 : Channel).val ∧
      (marked true true).co.channels[3].input = true ∧
      (marked false false).co.channels[3].input = false ∧ (marked false false).co.channels[3].faulted = false ∧
      (marked true false).co.channels[3].input = false ∧ (marked true false).co.channels[3].faulted = true := by
  decide +kernel
theorem witness_StartEntersListen :
    portReady 0x60 [] (ready member) = true ∧ member.mc.phase ≠ .offline ∧ member.mc.phase ≠ .fault ∧
      State.reset.mc.phase = .offline ∧
      configValid (stores { ConfigBlock.defaults with pool := 0 } State.reset).hp.stored = false ∧
      configValid State.reset.hp.stored = true ∧ (cut State.reset).tm.state = .cut ∧
      configValid (cut State.reset).hp.stored = true ∧ State.reset.tm.state ≠ .cut := by decide +kernel
theorem witness_StopInJoinedEntersLeaving :
    portReady 0x61 [] (ready member) = true ∧ member.mc.phase = .joined ∧ appliedSum member = 0 ∧
      member.mc.presence.isSome = false ∧
      { member.mc with presence := almost }.presence.isSome = true ∧
      (inPhase .leaving member).mc.phase ≠ .joined ∧ (inPhase .leaving member).mc.phase ≠ .joining := by decide +kernel

/-- JOINED with a request not begun of each block for a member's work, and a PRESENT. -/
def working : State :=
  { member with
    watches := member.watches.set 1 .requested
    ba := { member.ba with claim := .queued, release := .queued }
    tu := { member.tu with snapshot := some { joiner := 2, base := 900, image := group, digest := 0x5C17, next := 0 } }
    lif := { member.lif with
      queue := [req (.lapse 1 2) .ca, req (.free 2) .mc, req (.claim 0) .ba, req (.release 0) .ba,
        req (.snapshot 2 900 0 (List.replicate 64 0)) .tu, req .present .mc] } }

theorem witness_StopInJoinedEntersLeaving_parts :
    portReady 0x61 [] (ready working) = true ∧ (ready working).mc.phase = .joined ∧ (ready working).lif.Orderly ∧
      (ready working).watches[1] = .requested ∧ (ready working).ba.claim = .queued ∧
      (ready working).ba.release = .queued ∧ (ready working).tu.snapshot.isSome = true := by
  refine ⟨?_, ?_, ⟨?_, ?_, ?_, ?_, ?_⟩, ?_, ?_, ?_, ?_⟩ <;> decide +kernel
/-- R57, R84, R104, R149, R174: of these requests the PRESENT alone stays; R85, R86: the levels are already 0, so the LEAVE is
requested at once. -/
theorem test_stop_in_joined :
    (run .stop (ready working)).map (fun t => (t.mc.phase, t.lif.queue.map (·.body), t.ba.claim, t.ba.release)) =
      some (.leaving, [.present, .leave], .none, .none) := by decide +kernel

/-- JOINING with its own JOIN waiting or in transmission, the own entry ABSENT. -/
def joins (sent : Bool) : State :=
  queue [{ req (.join 0 100 100) .mc with inTransmission := sent }] (holds Image.empty .joining State.reset)

theorem witness_StopInJoiningActsByOwnJoin :
    portReady 0x61 [] (ready joining) = true ∧ joining.mc.phase = .joining ∧ joining.ownEntry.state = .present ∧
      (joins true).mc.phase = .joining ∧ (joins true).ownEntry.state ≠ .present ∧
      (joins true).lif.queue.any (fun r => r.body.kind == .join && r.inTransmission) = true ∧
      (joins true).mc.pendingStop = none ∧
      { (joins true).mc with pendingStop := some .thermal }.pendingStop ≠ none ∧
      (joins false).lif.queue.any (fun r => r.body.kind == .join && r.inTransmission) = false := by decide +kernel

/-- JOINING with the own entry PRESENT and the JOIN of a refusal's repeat not begun. -/
def rejoins : State := queue [req (.join 0 100 100) .mc] joining

theorem witness_request_law : rejoins.RequestLaw where
  requesters := by decide +kernel
  attempt := fun _ h => nomatch h
  outside := by decide +kernel
  carried := by decide +kernel
  collecting := by decide +kernel
  count := by decide +kernel
  joining := by decide +kernel
  rejoin := by decide +kernel
  joined := by decide +kernel

theorem witness_StopInJoiningActsByOwnJoin_present :
    portReady 0x61 [] (ready rejoins) = true ∧ rejoins.mc.phase = .joining ∧ rejoins.ownEntry.state = .present ∧
      rejoins.lif.Orderly ∧ rejoins.RequestLaw ∧ rejoins.lif.line.isSending = false ∧ rejoins.lif.waiting = .none ∧
      appliedSum rejoins = 0 ∧
      ∀ r ∈ rejoins.lif.queue, r.inTransmission = true ∨ r.body.kind ∈ ([.join, .leave, .syncreq] : List FrameKind) := by
  refine ⟨?_, ?_, ?_, ⟨?_, ?_, ?_, ?_, ?_⟩, witness_request_law, ?_, ?_, ?_, ?_⟩ <;> decide +kernel
theorem witness_HostCommandsNeverChangeTable :
    Instr.isHost .popEvent = true ∧ (∀ d, Instr.popEvent ≠ .hostByteComplete d) ∧ Instr.popEvent ≠ .stop ∧
      Instr.popEvent ≠ .reset :=
  ⟨rfl, nofun, nofun, nofun⟩

theorem witness_ReceiverFollowsLine :
    State.reset.inReset = false ∧ State.reset.lif.line = .noGrid ∧ (line (.slots 0) member).lif.line ≠ .noGrid ∧
      (line (.slots 0) member).lif.line.isIdle = true ∧ (⟨31, true⟩ : RxChar).byte.toNat = (31 : Station).val ∧
      32 ≤ (⟨32, true⟩ : RxChar).byte.toNat ∧ (⟨31, false⟩ : RxChar).stop = false ∧
      (line (.receiving none) member).lif.line.isSending = false ∧
      (line (.receiving none) member).lif.line = .receiving none := by decide +kernel

/-- The line is idle and OQ holds this request, in this phase. -/
def starts (r : Request) (p : Phase) : State := line (.slots 80) (queue [r] (inPhase p member))

theorem witness_AttemptStartFillsFrame :
    (starts (req .leave .mc) .joined).inReset = false ∧
      (starts (req .leave .mc) .joined).lif.line.isIdle = true ∧ member.lif.queue = [] ∧
      (starts (req .leave .mc) .fault).mc.phase = .fault ∧
      (req .present .mc).body.kind ≠ .syncreq ∧ (req .present .mc).inTransmission = false ∧
      (starts (req .present .mc) .syncing).mc.phase = .syncing ∧
      (req .present .mc).body.kind ≠ .leave ∧ (starts (req .present .mc) .out).mc.phase = .out ∧
      (begun (req .present .mc) 7).inTransmission = true ∧ (req (.syncreq 0 100) .tu).body.kind = .syncreq ∧
      (starts (req (.claim 0) .ba) .joined).lif.queue = [req (.claim 0) .ba] ∧
      0 < claimAmount { starts (req (.claim 0) .ba) .joined with ba := { Ba.reset with demand := 31 } } ∧
      0 < releaseAmount { starts (req (.release 0) .ba) .joined with ba := { Ba.reset with idleMark := true } } := by
  decide +kernel
theorem witness_ZeroAmountNeverSent :
    (starts (begun (req (.claim 5) .ba) 1) .out).inReset = false ∧
      (starts (begun (req (.claim 5) .ba) 1) .out).lif.line.isIdle = true ∧
      (starts (begun (req (.claim 5) .ba) 1) .out).mc.phase = .out ∧
      (starts (begun (req (.claim 5) .ba) 1) .out).lif.queue = [begun (req (.claim 5) .ba) 1] ∧
      (begun (req (.claim 5) .ba) 1).inTransmission = true ∧
      (starts (begun (req (.claim 5) .ba) 1) .out).lif.waiting = .none ∧
      (req (.claim 5) .ba).body.kind = .claim ∧ (req (.release 5) .ba).body.kind = .release := by decide +kernel
theorem witness_ZeroAmountNeverSent_withdrawn :
    ((starts (req (.claim 0) .ba) .joined).lif.Orderly ∧ (starts (req (.claim 0) .ba) .joined).BudgetLaw ∧
      (starts (req (.claim 0) .ba) .joined).lif.queue = req (.claim 0) .ba :: [] ∧
      (starts (req (.claim 0) .ba) .joined).mc.phase = .joined ∧ claimAmount (starts (req (.claim 0) .ba) .joined) = 0 ∧
      (starts (req (.claim 0) .ba) .joined).lif.waiting = .none ∧ ([] : List Request).length < 6) ∧
      (starts (req (.release 0) .ba) .leaving).lif.Orderly ∧ (starts (req (.release 0) .ba) .leaving).BudgetLaw ∧
      (starts (req (.release 0) .ba) .leaving).lif.queue = req (.release 0) .ba :: [] ∧
      (starts (req (.release 0) .ba) .leaving).mc.phase = .leaving ∧
      releaseAmount (starts (req (.release 0) .ba) .leaving) = 0 := by
  refine ⟨⟨⟨?_, ?_, ?_, ?_, ?_⟩, ⟨?_, ?_, ?_⟩, ?_⟩, ⟨?_, ?_, ?_, ?_, ?_⟩, ⟨?_, ?_, ?_⟩, ?_⟩ <;> decide +kernel

/-- Watched by the Claim Arithmetic, with its LAPSE waiting. -/
def recalls : State := { member with watches := member.watches.set 1 .requested }

theorem witness_SenderByteLostOrEnded :
    (sends (req (.lapse 1 2) .ca) false recalls).inReset = false ∧
      (sends (req (.lapse 1 2) .ca) false recalls).lif.line =
        .sending { bytes := encodeFrame (frame 0 (.lapse 1 2)), senderByteEnded := false } ∧
      (sends (req (.lapse 1 2) .ca) false recalls).lif.queue = [req (.lapse 1 2) .ca] ∧
      recalls.mc.phase ≠ .fault ∧ recalls.mc.phase ≠ .offline ∧ recalls.mc.phase ≠ .out ∧
      (req (.lapse 1 2) .ca).heldWithdrawals = .none ∧ (req (.lapse 1 2) .ca).requesters.isEmpty = false ∧
      (req (.lapse 1 2) .ca).requesters.ca = true ∧ (req (.lapse 1 2) .ca).body = .lapse (1 : Station).val 2 ∧
      recalls.watches[1] = .requested ∧ (begun (req .present .mc) 1).inTransmission = true ∧
      (⟨0, false⟩ : RxChar).stop = false ∧
      ((req (.lapse 1 2) .ca).requesters.diff (.only .ca)).isEmpty = true ∧
      (({ req (.lapse 1 2) .ca with requesters := { Blocks.only .ca with mc := true } } : Request).requesters.diff
        (.only .mc)).isEmpty = false ∧
      (sends (req (.lapse 1 2) .ca) false (inPhase .offline recalls)).mc.phase = .offline ∧
      (sends (req (.lapse 1 2) .ca) false recalls).lif.Orderly ∧
      ∃ i : Fin 8, ((encodeFrame (frame 31 .present)).headD 0).getLsbD i = true ∧
        (⟨30, true⟩ : RxChar).byte.getLsbD i = false := by
  refine ⟨?_, ?_, ?_, ?_, ?_, ?_, ?_, ?_, ?_, ?_, ?_, ?_, ?_, ?_, ?_, ?_, ⟨?_, ?_, ?_, ?_, ?_⟩, ?_⟩ <;> decide +kernel

/-- The LEAVE requested on entry to OUT, in its first sender byte. -/
def outLeave : State := sends (req .leave .mc) false (inPhase .out State.reset)

theorem witness_SenderByteLostOrEnded_out :
    outLeave.inReset = false ∧
      outLeave.lif.line = .sending { bytes := encodeFrame (frame 0 .leave), senderByteEnded := false } ∧
      outLeave.lif.queue = [req .leave .mc] ∧ outLeave.mc.phase = .out ∧ (req .leave .mc).heldWithdrawals = .none ∧
      (req .leave .mc).requesters.isEmpty = false ∧ (req .leave .mc).inTransmission = false ∧
      ((discarded (req .leave .mc)).requesters.diff (discarded (req .leave .mc)).heldWithdrawals).isEmpty = true := by
  decide +kernel
/-- R152: a line held dominant from the third character of a CLAIM and released in the fifth: FRAMING, objected to and
counted; the same characters with their stop bits are a truncated frame (R131). -/
theorem test_held_line_fails_framing :
    receive [⟨1, true⟩, ⟨0x21, true⟩, ⟨0, false⟩, ⟨0, false⟩, ⟨0, true⟩] = .failed .framing ∧
      receive [⟨1, true⟩, ⟨0x21, true⟩, ⟨0, true⟩, ⟨0, true⟩, ⟨0, true⟩] = .truncated ∧
      (run (.frameReceived [⟨1, true⟩, ⟨0x21, true⟩, ⟨0, false⟩, ⟨0, false⟩, ⟨0, true⟩] false) member).map
        (fun t => (t.lif.lastSender, t.lif.lastFailure, t.lif.objected, t.lif.selfObjection)) =
        some (1, some .framing, true, 1) := by decide +kernel
theorem witness_FrameNotAcceptedHere_checks :
    goodSender ⟨31, true⟩ = some 31 ∧ kindOfCode 0x77 = none ∧ kindOfCode 0x13 = some .present ∧
      frameLength .present = 8 ∧ ([⟨31, true⟩, ⟨0x13, true⟩] : List RxChar).length < 8 ∧
      (∃ c ∈ ([⟨31, true⟩, ⟨0x13, false⟩] : List RxChar).take 8, c.stop = false) ∧
      (∀ c ∈ (chars 31 .present ++ [(⟨0, false⟩ : RxChar)]).take 8, c.stop = true) ∧
      8 < (chars 31 .present ++ [(⟨0, false⟩ : RxChar)]).length ∧
      receive (chars 31 .present ++ [(⟨0, false⟩ : RxChar)]) = .failed .length := by decide +kernel
theorem witness_FrameNotAcceptedHere :
    (line (.receiving none) member).inReset = false ∧ (line (.receiving none) member).lif.line.isSending = false ∧
      receive [⟨32, true⟩] = .senderFailed ∧ receive [⟨31, true⟩] = .truncated ∧
      ([⟨31, true⟩] : List RxChar).head?.bind goodSender = some 31 ∧
      receive (chars 31 .present) = .passed (frame 31 .present) ∧
      receive ((chars 31 .present).dropLast ++ [⟨0, true⟩]) = .failed .check ∧
      ((chars 31 .present).dropLast ++ [(⟨0, true⟩ : RxChar)]).head?.bind goodSender = some 31 ∧
      member.lif.selfObjection < 7 ∧ { member.lif with selfObjection := 6 }.selfObjection < 7 ∧
      { member with lif := { member.lif with selfObjection := 7 } }.lif.selfObjection = 7 ∧
      member.mc.phase ≠ .offline ∧ member.mc.phase ≠ .out ∧ member.mc.phase ≠ .fault ∧
      State.reset.mc.phase = .offline ∧ State.reset.lif.line.isSending = false := by decide +kernel
theorem witness_AcceptedFrameHandedOn :
    member.inReset = false ∧ member.lif.line.isSending = false ∧
      receive (chars 1 (.claim 4000)) = .passed (frame 1 (.claim 4000)) ∧ member.table.isSome = true ∧
      State.reset.table = none ∧ State.reset.mc.phase = .offline ∧ listening.table = none ∧
      listening.mc.phase = .listen ∧ listening.inReset = false ∧ listening.lif.line.isSending = false := by decide +kernel

/-- The table that `member` holds. -/
def shared : Table := { image := group, n := 900, digest := 0x5C17 }

theorem witness_AcceptedFrameHandedOn_ends :
    foreignEnds member (frame 1 (.claim 4000)) shared = none ∧
      foreignEnds (inPhase .founding member) { frame 1 .present with order := 901 } shared =
        some (.syncing, .foundingAbandoned) ∧
      foreignEnds (inPhase .leaving member) (frame 0 .present) shared = some (.fault, .duplicateNumber) ∧
      (shared.apply 1 (.free 0)).2 = .notLapsed ∧
      ({ image := group.setEntry 0 { Entry.empty with state := .lapsed }, n := 900, digest := 0x5C17 : Table }.apply 1
        (.free 0)).2 = .freed 0 0 { services := [], wait := [], left := 0 } ∧
      foreignEnds (inPhase .joining { member with mc := { member.mc with rejoin := almost } }) (frame 1 (.free 0))
        { shared with image := group.setEntry 0 { Entry.empty with state := .lapsed } } = none ∧
      { member.mc with rejoin := almost }.rejoin.isSome = true ∧
      foreignEnds member (frame 1 (.lapse 0 2)) shared = some (.out, .lapsed) ∧
      foreignEnds (inPhase .joining doubting) { frame 2 .present with digest := 0 } shared = some (.out, .diverged) := by
  decide +kernel

theorem witness_AcceptedFrameHandedOn_budget :
    member.mc.phase = .joined ∧ member.table = some shared ∧ foreignEnds member (frame 1 (.claim 4000)) shared = none ∧
      member.lif.Orderly ∧ member.lif.waiting = .none ∧ member.lif.queue.length < 6 ∧ member.ba.claim = .none ∧
      has .claim member.lif.queue = false ∧ member.ba.release = .none ∧ has .release member.lif.queue = false := by
  refine ⟨?_, ?_, ?_, ⟨?_, ?_, ?_, ?_, ?_⟩, ?_⟩ <;> decide +kernel

/-- An own PRESENT on the line for the seventh time, in this phase. -/
def seventh (p : Phase) : State := sends (begun (req .present .mc) 6) true (inPhase p member)

theorem witness_VoidAttemptCounted :
    (seventh .joined).inReset = false ∧
      (seventh .joined).lif.line = .sending (attempt (req .present .mc) member) ∧
      (attempt (req .present .mc) member).senderByteEnded = true ∧
      (seventh .joined).lif.queue = [begun (req .present .mc) 6] ∧ chars 0 .leave ≠ [] ∧
      (attempt (req .present .mc) member).bytes ≠ [] ∧ (begun (req .present .mc) 6).attempts < 7 ∧
      (seventh .joined).mc.phase ≠ .fault ∧ (seventh .joined).mc.phase ≠ .offline ∧
      (seventh .joined).mc.phase ≠ .out ∧ (seventh .joined).lif.selfObjection < 7 ∧
      chars 0 .leave ≠ cleanChars (attempt (req .present .mc) member).bytes ∧ (seventh .out).mc.phase = .out ∧
      (seventh .fault).mc.phase = .fault ∧ (seventh .fault).lif.waiting = .none := by decide +kernel

/-- An own attempt on the line with this count of void ones before it and of failures in a row. -/
def failing (r : Request) (attempts failures : Nat) : State :=
  let s := sends (begun r attempts) true member
  { s with lif := { s.lif with selfObjection := failures } }

theorem witness_VoidAttemptCounted_eighth :
    (failing (req .present .mc) 7 7).inReset = false ∧
      (failing (req .present .mc) 7 7).lif.line = .sending (attempt (req .present .mc) member) ∧
      (failing (req .present .mc) 7 7).lif.queue = [begun (req .present .mc) 7] ∧
      (begun (req .present .mc) 7).attempts = 7 ∧ (failing (req .present .mc) 7 7).mc.phase = .joined ∧
      (run .requestAbandoned (failing (req .present .mc) 7 7)).map (fun u => (u.mc.phase, u.lif.selfObjection)) =
        some (.joined, 7) ∧
      (run .requestAbandoned (failing (req .present .mc) 7 6)).map (fun u => (u.mc.phase, u.lif.selfObjection)) =
        some (.joined, 6) ∧
      (run .requestAbandoned (sends (begun (req .leave .mc) 7) true (inPhase .out member))).map (·.mc.phase) = some .out ∧
      (failing (req .present .mc) 6 7).lif.selfObjection = 7 := by decide +kernel
/-- Log 7: one verdict brings both ends, FRAME_ABANDONED first, and the abandonment in OQ before OUT's own LEAVE. -/
theorem test_both_ends :
    (run (.frameReceived (chars 0 .leave) false) (failing (req .present .mc) 7 7)).map
        (fun t => (t.hp.events.map (fun e => (e.kind, e.amount, e.cause)), t.lif.queue.map (·.body), t.mc.phase)) =
      some ([(.frameAbandoned, 8, 0x13), (.phase, 7, 0x0C)], [.leave], .out) := by decide +kernel

/-- The LEAVE sent from OUT, with no table and the rejoin timer not started. -/
def leaves : State :=
  sends (begun (req .leave .mc) 0) true
    { State.reset with mc := { State.reset.mc with phase := .out, awaitLeave := true } }

theorem witness_AcceptedAttemptEndsRequest :
    leaves.inReset = false ∧ leaves.lif.line = .sending (attempt (req .leave .mc) State.reset) ∧
      (attempt (req .leave .mc) State.reset).senderByteEnded = true ∧ leaves.lif.queue = [begun (req .leave .mc) 0] ∧
      receive (cleanChars (attempt (req .leave .mc) State.reset).bytes) = .passed (frame 0 .leave) ∧
      leaves.mc.pendingStop = none ∧ leaves.lif.waiting = .none ∧ leaves.table = none ∧ leaves.mc.phase = .out ∧
      leaves.mc.awaitLeave = true ∧
      (sends (begun (req (.join 0 100 100) .mc) 0) true (joins true)).table =
        some { image := .empty, n := 900, digest := 0x5C17 } ∧
      (sends (begun (req (.join 0 100 100) .mc) 0) true (joins true)).mc.phase = .joining ∧
      (sends (begun (req (.join 0 100 100) .mc) 0) true (joins true)).mc.pendingStop = none ∧
      (sends (begun (req (.join 0 100 100) .mc) 0) true (joins true)).lif.waiting = .none ∧
      receive (cleanChars (attempt (req (.join 0 100 100) .mc) State.reset).bytes) =
        .passed (frame 0 (.join 0 100 100)) ∧
      (frame 0 (.join 0 100 100)).sender = State.reset.num ∧
      (({ image := .empty, n := 900, digest := 0x5C17 } : Table).apply 0 (.join 0 100 100)).2 = .joined 0 0 ∧
      (begun (req (.join 0 100 100) .mc) 0).body = (frame 0 (.join 0 100 100)).body := by
  decide +kernel

theorem witness_AcceptedAttemptEndsRequest_leaves :
    leaves.lif.Orderly ∧ leaves.PhaseLaw ∧ leaves.lif.line = .sending (attempt (req .leave .mc) State.reset) ∧
      leaves.lif.queue = [begun (req .leave .mc) 0] := by
  refine ⟨?_, ?_, rfl, rfl⟩ <;> constructor <;> decide +kernel

/-- The group with a pool of 200. -/
def larger : Image := { group with pool := some { pool := 200, interval := 100 } }

/-- The own JOIN on the line at a station that holds this image, in this phase. -/
def refusedAt (img : Image) (p : Phase) : State :=
  sends (begun (req (.join 0 100 100) .mc) 0) true (holds img p State.reset)

theorem witness_AcceptedAttemptEndsRequest_refused :
    (∀ img ∈ [group, larger, group.setEntry 0 { Entry.empty with state := .lapsed }],
      (refusedAt img .joining).table = some { image := img, n := 900, digest := 0x5C17 } ∧
      (refusedAt img .joining).mc.phase = .joining ∧ (refusedAt img .joining).mc.pendingStop = none ∧
      (refusedAt img .joining).lif.waiting = .none ∧
      (refusedAt img .joining).lif.line = .sending (attempt (req (.join 0 100 100) .mc) State.reset)) ∧
      (shared.apply 0 (.join 0 100 100)).2 = .joinRefused .duplicate ∧ (refusedAt group .leaving).mc.phase = .leaving ∧
      (refusedAt group .joining).mc.dupCount = 0 ∧ 0 < { (refusedAt group .joining).mc with dupCount := 1 }.dupCount ∧
      (({ shared with image := larger } : Table).apply 0 (.join 0 100 100)).2 =
        .joinRefused .poolMismatch ∧
      (({ shared with image := group.setEntry 0 { Entry.empty with state := .lapsed } } : Table).apply 0
        (.join 0 100 100)).2 = .joinRefused .lapsed := by decide +kernel

/-- An own request on the line for the first time at a station that holds the group, in this phase, this stop pending. -/
def ownAt (body : Body) (p : Phase) (stop : Option Cause) (s : State) : State :=
  sends (begun (req body .mc) 0) true { holds group p s with mc := { (holds group p s).mc with pendingStop := stop } }

theorem witness_AcceptedAttemptEndsRequest_phases :
    (∀ body ∈ [Body.join 0 100 100, .leave, .present, .lapse 1 2, .free 2],
      receive (cleanChars (attempt (req body .mc) State.reset).bytes) = .passed (frame 0 body) ∧
      ∀ p ∈ [Phase.founding, .joining, .leaving, .joined, .syncing], ∀ stop ∈ [none, some Cause.stopped],
        let s := ownAt body p stop State.reset
        s.inReset = false ∧ s.lif.line = .sending (attempt (req body .mc) State.reset) ∧
        s.lif.queue = [begun (req body .mc) 0] ∧ s.table = some { image := group, n := 900, digest := 0x5C17 } ∧
        s.mc.phase = p ∧ s.mc.pendingStop = stop ∧ s.lif.waiting = .none ∧ (frame 0 body).sender = s.num ∧
        (frame 0 body).order = 900 ∧ body.target ≠ some s.num.val) ∧
      (({ image := .empty, n := 900, digest := 0x5C17 } : Table).apply 0 (.join 0 100 100)).2 = .joined 0 0 ∧
      (holds Image.empty .founding State.reset).mc.phase = .founding ∧
      { ownAt (.join 0 100 100) .syncing (some .thermal) State.reset with table := none }.table = none ∧
      { State.reset.tu with joiner := .asking }.joiner = .asking ∧
      (ownAt (.lapse 1 2) .joined none { State.reset with watches := noWatches.set 1 .sending }).watches[1] = .sending := by
  decide +kernel
set_option maxRecDepth 20000 in
theorem witness_AcceptedAttemptEndsRequest_piece :
    (told.tu.snapshot.map (fun n => Body.snapshot n.joiner.val n.base n.next (List.replicate 64 0)) =
        some (.snapshot 2 900 4 (List.replicate 64 0))) ∧
      told.mc.phase = .joined ∧ { joiner := 2, base := 900, image := group, digest := 0x5C17, next := 3 : Snapshot }.next < 4 ∧
      receive (chars 0 (.snapshot 2 900 3 (List.replicate 64 0))) =
        .passed (frame 0 (.snapshot 2 900 3 (List.replicate 64 0))) := by decide +kernel
/-- R59: the own RELEASE of a station that holds nothing changes no entry and posts nothing; R63, R87: the own JOIN refused in
LEAVING posts PHASE, phase 6, cause 0x10, and changes neither phase nor count. R86, R90: the own LEAVE applied in LEAVING ends
in OFFLINE with the cause of LEAVING; R142: the CLAIM accepted has left OQ. -/
theorem test_own_frames_end :
    (run (.frameReceived (chars 0 (.release 5)) false)
        (sends (begun (req (.release 5) .ba) 0) true (holds three .joined State.reset))).map
        (fun t => (t.hp.events.length, t.ba.release)) = some (0, .none) ∧
      (run (.frameReceived (chars 0 (.join 0 100 100)) false)
        (sends (begun (req (.join 0 100 100) .mc) 0) true (inPhase .leaving member))).map
        (fun t => (t.mc.phase, t.mc.dupCount, t.hp.events.map (fun e => (e.kind, e.amount, e.cause)))) =
        some (.leaving, 0, [(.phase, 6, 16)]) ∧
      (run (.frameReceived (chars 0 .leave) false)
        (ownAt .leave .leaving none { State.reset with mc := { State.reset.mc with cause := .thermal } })).map
        (fun t => (t.mc.phase, t.mc.cause, t.table.isSome, t.lif.queue.length)) = some (.offline, .thermal, false, 0) ∧
      (run (.frameReceived (chars 0 (.claim 5)) false)
        (sends (begun (req (.claim 5) .ba) 0) true member)).map (fun t => t.lif.queue.length) = some 0 := by
  decide +kernel

/-- The own RELEASE of 30 units on the line, BA bound by it. -/
def gives : State :=
  refresh
    { sends (begun (req (.release 30) .ba) 0) true member with
      ba := { member.ba with release := .sending, bound := some 30 } }

theorem witness_AcceptedAttemptEndsRequest_amounts :
    gives.inReset = false ∧ gives.lif.line = .sending (attempt (req (.release 30) .ba) State.reset) ∧
      gives.lif.queue = [begun (req (.release 30) .ba) 0] ∧
      receive (cleanChars (attempt (req (.release 30) .ba) State.reset).bytes) = .passed (frame 0 (.release 30)) ∧
      receive (cleanChars (attempt (req (.claim 5) .ba) State.reset).bytes) = .passed (frame 0 (.claim 5)) ∧
      gives.table = some shared ∧ gives.mc.phase = .joined ∧ (frame 0 (.release 30)).sender = gives.num ∧
      gives.mc.pendingStop = none ∧ gives.lif.waiting = .none ∧ gives.lif.Orderly ∧
      claimAmount gives = 0 ∧ releaseWanted gives = false ∧ (begun (req (.release 30) .ba) 0).body = .release 30 ∧
      ([] : List Request).length < 5 ∧ has .claim [] = false ∧ has .release [] = false := by
  refine ⟨?_, ?_, ?_, ?_, ?_, ?_, ?_, ?_, ?_, ?_, ⟨?_, ?_, ?_, ?_, ?_⟩, ?_⟩ <;> decide +kernel
theorem witness_AgreementChecked :
    member.inReset = false ∧ member.lif.line.isSending = false ∧
      receive (chars 1 .present) = .passed (frame 1 .present) ∧ (frame 1 .present).body.kind ≠ .syncreq ∧
      member.table = some { image := group, n := 900, digest := 0x5C17 } ∧ member.mc.phase = .joined ∧
      (frame 1 .present).order = 900 ∧ (frame 1 .present).digest = 0x5C17 ∧
      receive (cleanChars (encodeFrame { frame 1 .present with order := 901 })) =
        .passed { frame 1 .present with order := 901 } ∧
      { frame 1 .present with order := 901 }.order ≠ 900 ∧ member.ac.doubt = none ∧
      doubting.ac.doubt = some (frame 1 .present).sender ∧ (1 : Station) ≠ (frame 2 .present).sender ∧
      foreignEnds member { frame 1 .present with order := 901 } shared = none ∧
      foreignEnds doubting { frame 1 .present with order := 901 } shared = none := by decide +kernel

/-- The eighth void attempt of this request ends, 14 events held. -/
def eighth (r : Request) (s : State) : State := sends (begun r 7) true { s with hp := busy.hp }

theorem witness_RequestAbandonedAfterEight :
    (eighth (req (.claim 5) .ba) member).inReset = false ∧
      (eighth (req (.claim 5) .ba) member).lif.line = .sending (attempt (req (.claim 5) .ba) member) ∧
      receive (cleanChars (attempt (req (.claim 5) .ba) member).bytes) ≠ .truncated ∧
      (eighth (req (.claim 5) .ba) member).lif.queue = [begun (req (.claim 5) .ba) 7] ∧
      (begun (req (.claim 5) .ba) 7).attempts = 7 ∧ member.mc.phase ≠ .fault ∧ member.mc.phase ≠ .offline ∧
      (eighth (req (.claim 5) .ba) member).hp.events.length ≤ 14 ∧
      (eighth (req .present .mc) member).lif.waiting = .none ∧ member.mc.phase = .joined ∧
      ([] : List Request).length < 6 ∧ (attempt (req (.claim 5) .ba) member).senderByteEnded = true := by decide +kernel
theorem witness_RequestAbandonedAfterEight_lapse :
    (eighth (req (.lapse 1 1) .mc) member).lif.queue = [begun (req (.lapse 1 1) .mc) 7] ∧
      (req (.lapse 1 1) .mc).body.target = some (1 : Station).val ∧ (req (.lapse 1 1) .mc).requesters.mc = true ∧
      member.image.entries[1].state = .present ∧ (req (.lapse 1 2) .ca).requesters.ca = true ∧
      { member with watches := member.watches.set 1 .sending }.watches[1] = .sending := by decide +kernel
theorem witness_RequestAbandonedAfterEight_membership :
    (eighth (req (.free 2) .mc) (holds (group.setEntry 2 { Entry.empty with state := .lapsed }) .joined
        State.reset)).image.entries[2].state = .lapsed ∧
      (eighth (req .leave .mc) (inPhase .leaving member)).mc.phase = .leaving ∧
      (eighth (req .leave .mc) (inPhase .leaving member)).mc.awaitLeave = false ∧
      0 < (eighth (req .leave .mc) { joining with mc := { joining.mc with dupCount := 1 } }).mc.dupCount ∧
      (eighth (req .leave .mc) { joining with mc := { joining.mc with dupCount := 1 } }).mc.phase = .joining ∧
      (eighth (req (.join 0 100 100) .mc) (joins true)).mc.phase = .joining ∧ (joins true).mc.pendingStop = none := by
  decide +kernel
theorem witness_RequestAbandonedAfterEight_ends :
    (eighth (req .leave .mc) leaves).mc.awaitLeave = true ∧ (eighth (req .leave .mc) leaves).mc.phase = .out ∧
      (eighth (req .leave .mc) leaves).lif.queue = [begun (req .leave .mc) 7] ∧
      (eighth (req (.join 0 100 100) .mc)
        { joins true with mc := { (joins true).mc with pendingStop := some .thermal } }).mc.pendingStop = some .thermal ∧
      2 ≤ { State.reset.tu with joiner := .asking, attempt := 2 }.attempt ∧
      (eighth (req (.claim 5) .ba) (inPhase .leaving member)).mc.phase = .leaving ∧
      (eighth (req (.claim 5) .ba) (inPhase .out State.reset)).mc.phase = .out ∧
      (eighth (req .leave .mc) leaves).lif.Orderly := by
  refine ⟨?_, ?_, ?_, ?_, ?_, ?_, ?_, ⟨?_, ?_, ?_, ?_, ?_⟩⟩ <;> decide +kernel
theorem witness_RequestAbandonedAfterEight_transfer :
    { State.reset.tu with joiner := .asking, attempt := 1 }.joiner = .asking ∧
      { State.reset.tu with joiner := .asking, attempt := 1 }.attempt < 2 ∧
      (eighth (req (.syncreq 1 100) .tu) { inPhase .syncing State.reset with
        tu := { State.reset.tu with joiner := .asking, attempt := 1 } }).lif.queue =
          [begun (req (.syncreq 1 100) .tu) 7] ∧
      receive (cleanChars (attempt (req (.syncreq 1 100) .tu) State.reset).bytes) ≠ .truncated ∧
      told.tu.snapshot.map (fun n => (n.joiner, n.base)) = some (2, 900) ∧
      (req (.snapshot 2 900 4 (List.replicate 64 0)) .tu).body = .snapshot (2 : Station).val 900 4 (List.replicate 64 0) := by
  decide +kernel
theorem witness_SelfObjectionLimitGoesOut :
    { member with lif := { member.lif with selfObjection := 7 } }.lif.selfObjection = 7 ∧ member.inReset = false ∧
      member.mc.phase ≠ .offline ∧ member.mc.phase ≠ .out ∧ member.mc.phase ≠ .fault ∧
      member.lif.line.isSending = false ∧
      (seventh .joined).lif.line = .sending (attempt (req .present .mc) member) ∧
      (attempt (req .present .mc) member).senderByteEnded = true ∧
      (seventh .joined).lif.queue = [begun (req .present .mc) 6] ∧ (begun (req .present .mc) 6).attempts < 7 ∧
      chars 0 .leave ≠ [] ∧ chars 0 .leave ≠ cleanChars (attempt (req .present .mc) member).bytes := by
  decide +kernel

/-- OQ filled to its eight places by requests of other kinds and targets than the own JOIN. -/
def eight : List Request := (List.range 8).map (fun i => req (.free i) .mc)

theorem witness_ListenExpiryFounds :
    listening.inReset = false ∧ listening.mc.listen.isSome = true ∧
      listening.lif.queue.all (fun r => r.body.kind != .join) = true ∧ listening.lif.queue.length < 8 ∧
      (queue (eight.take 7) listening).lif.queue.length < 8 ∧
      (queue (eight.take 7) listening).lif.queue.all (fun r => r.body.kind != .join) = true ∧
      8 ≤ (queue eight listening).lif.queue.length ∧
      (queue eight listening).lif.queue.all (fun r => r.body.kind != .join) = true ∧ listening.mc.held = [] := by
  decide +kernel
theorem witness_MemberTimersMakeRequests :
    member.inReset = false ∧ { member.mc with presence := almost }.presence.isSome = true ∧
      { member.mc with lastHeard := member.mc.lastHeard.set 31 almost }.lastHeard[31].isSome = true ∧
      { member.mc with quarantine := member.mc.quarantine.set 31 almost }.quarantine[31].isSome = true := by
  decide +kernel

/-- `member` with station 2 LAPSED in its group. -/
def lapsedPeer : Image := group.setEntry 2 { Entry.empty with state := .lapsed }

theorem witness_MemberTimersMakeRequests_applied :
    member.lif.Orderly ∧ member.mc.phase = .joined ∧ member.lif.line.isSending = false ∧ member.table = some shared ∧
      receive (chars 1 .leave) = .passed (frame 1 .leave) ∧ foreignEnds member (frame 1 .leave) shared = none ∧
      group.entries[1].state = .present ∧ (shared.apply 1 .leave).1.image.entries[1].state ≠ .present ∧
      receive (chars 1 (.free 2)) = .passed (frame 1 (.free 2)) ∧
      foreignEnds (holds lapsedPeer .joined State.reset) (frame 1 (.free 2)) { shared with image := lapsedPeer } = none ∧
      lapsedPeer.entries[2].state = .lapsed ∧
      (({ shared with image := lapsedPeer } : Table).apply 1 (.free 2)).1.image.entries[2].state ≠ .lapsed := by
  refine ⟨⟨?_, ?_, ?_, ?_, ?_⟩, ?_⟩ <;> decide +kernel
theorem witness_RejoinExpiryByPhase :
    (gone 3).inReset = false ∧ (gone 3).mc.rejoin.isSome = true ∧ (gone 3).mc.phase = .out ∧
      (gone 3).lif.lineFaultOut = 3 ∧ (gone 2).lif.lineFaultOut ≠ 3 ∧ (gone 2).mc.rejoin.isSome = true ∧
      (cut (gone 2)).tm.state = .cut ∧ (gone 2).tm.state ≠ .cut ∧ (inPhase .joining (gone 0)).mc.phase = .joining ∧
      (inPhase .joining (gone 0)).mc.rejoin.isSome = true := by decide +kernel
theorem witness_RecallExpiryRequestsLapse :
    member.inReset = false ∧
      { member with watches := member.watches.set 31 (.timing { length := 200000, run := 0 }) }.watches[31].isTiming =
        true := by decide +kernel

/-- OQ full, and the LAPSE of station 1 refused: its watch is HELD and its block marked as waiting. -/
def heldWatch : State :=
  let s := queue eight { member with watches := member.watches.set 1 .held }
  { s with lif := { s.lif with waiting := .only .ca } }

theorem witness_RecallExpiryRequestsLapse_held :
    heldWatch.lif.Orderly ∧ heldWatch.mc.phase = .joined ∧ heldWatch.lif.line.isSending = false ∧
      heldWatch.lif.waiting.ca = true ∧ heldWatch.watches[1] = .held ∧ (1 : Station) ≠ heldWatch.num ∧
      receive (chars 1 .present) = .passed (frame 1 .present) ∧ heldWatch.table = some shared ∧
      foreignEnds heldWatch (frame 1 .present) shared = none := by
  refine ⟨⟨?_, ?_, ?_, ?_, ?_⟩, ?_⟩ <;> decide +kernel
theorem witness_RecallExpiryRequestsLapse_applied :
    recalls.lif.Orderly ∧ recalls.mc.phase = .joined ∧ recalls.lif.line.isSending = false ∧
      recalls.lif.waiting.ca = false ∧ receive (chars 1 .present) = .passed (frame 1 .present) ∧
      recalls.table = some shared ∧ foreignEnds recalls (frame 1 .present) shared = none ∧ (1 : Station) ≠ recalls.num ∧
      recalls.watches[1] = .requested ∧ (shared.apply 1 .present).1.image.entries[1].recallDue = 0 := by
  refine ⟨⟨?_, ?_, ?_, ?_, ?_⟩, ?_⟩ <;> decide +kernel
theorem witness_SyncExpiryRetriesOrFails :
    (collecting 1).inReset = false ∧ (collecting 1).tu.sync.isSome = true ∧ (collecting 1).tu.attempt < 2 ∧
      (collecting 2).tu.sync.isSome = true ∧ 2 ≤ (collecting 2).tu.attempt := by decide +kernel
theorem witness_DoubtExpiryGoesOut : doubting.inReset = false ∧ doubting.ac.timer.isSome = true := by decide +kernel

/-- The idle timer and the hold-off both at their last microsecond. -/
def waitsIdle : State := { member with ba := { member.ba with idleTimer := almost, holdoff := almost, claim := .holdoff } }

theorem witness_BudgetTimersLeadToRequests :
    waitsIdle.inReset = false ∧ waitsIdle.ba.idleTimer.isSome = true ∧ waitsIdle.ba.holdoff.isSome = true ∧
      waitsIdle.ba.release = .none ∧ waitsIdle.lif.queue.length < 7 ∧
      waitsIdle.lif.queue.all (fun r => r.body.kind != .release) = true ∧
      waitsIdle.lif.queue.all (fun r => r.body.kind != .claim) = true ∧
      (run .releaseIdleTimerExpiry waitsIdle).map (fun t =>
        (t.mc.phase, decide (0 < intendedRelease t),
          decide (appliedSum t ≤ t.ownEntry.holding - intendedRelease t))) = some (.joined, true, true) ∧
      (run .holdoffTimerExpiry waitsIdle).map claimAmount = some 0 ∧
      (run .holdoffTimerExpiry (setChannelDemand 0 40 waitsIdle)).map claimAmount = some 10 := by decide +kernel
theorem witness_ThermalSampleMovesState :
    member.inReset = false ∧ member.inUse.cutoff ≤ (max (-40) (min 150 125 : Int) + 40).toNat ∧
      (max (-40) (min 150 124 : Int) + 40).toNat < member.inUse.cutoff ∧
      member.inUse.hot ≤ (max (-40) (min 150 100 : Int) + 40).toNat ∧
      (max (-40) (min 150 99 : Int) + 40).toNat < member.inUse.hot ∧
      (max (-40) (min 150 90 : Int) + 40).toNat ≤ member.inUse.cool ∧
      member.inUse.cool < (max (-40) (min 150 91 : Int) + 40).toNat ∧ member.tm.state = .normal ∧
      (cut member).tm.state = .cut ∧ member.mc.phase = .joined ∧ member.hp.events.length < 16 ∧
      (collecting 0).mc.phase = .syncing ∧ joining.mc.phase = .joining ∧ joining.ownEntry.state = .present ∧
      (joins true).ownEntry.state ≠ .present ∧ (joins false).ownEntry.state ≠ .present ∧
      (joins true).lif.queue.any (fun r => r.body.kind == .join && r.inTransmission) = true ∧
      (joins false).lif.queue.any (fun r => r.body.kind == .join && r.inTransmission) = false ∧
      (inPhase .leaving member).mc.phase = .leaving := by decide +kernel
theorem witness_BoundaryAppliesStagedLevels :
    loaded.inReset = false ∧ (inPhase .leaving member).mc.phase = .leaving ∧
      (inPhase .leaving member).ba.zeroReported = false ∧
      (∀ c : Channel, (inPhase .leaving member).co.channels[c].staged = 0) ∧ 999 < member.inUse.period ∧
      loaded.co.channels[0].staged = { loaded.inUse with rating0 := 6 }.rating0 := by decide +kernel
theorem witness_FaultInputForcesZero :
    (marked false false).inReset = false ∧ (marked false false).co.channels[3].input = false ∧
      (marked false false).co.channels[3].faulted = false ∧ (marked true false).co.channels[3].input = false ∧
      (marked true false).co.channels[3].faulted = true ∧ (marked true true).co.channels[3].input = true := by
  decide +kernel

/-- A waiting request of a SNAPSHOT and an own PRESENT in transmission. -/
def two : List Request := [begun (req .present .mc) 3, req (.snapshot 2 900 0 (List.replicate 64 0)) .tu]

theorem witness_QueueTakesMergesRefuses :
    (∀ q ∈ eight.take 7, (q.body.kind, q.body.target) ≠ (FrameKind.leave, Body.leave.target)) ∧
      (eight.take 7).length < 8 ∧
      (∀ q ∈ eight, (q.body.kind, q.body.target) ≠ (FrameKind.leave, Body.leave.target)) ∧ 8 ≤ eight.length ∧
      (queue two member).lif.queue = [] ++ begun (req .present .mc) 3 :: [req (.snapshot 2 900 0 (List.replicate 64 0)) .tu] ∧
      Body.present.kind ≠ .snapshot ∧ (begun (req .present .mc) 3).inTransmission = true ∧
      (queue two member).lif.line.isSending = false ∧
      (∀ q ∈ two.tail, (q.body.kind, q.body.target) ≠ (FrameKind.present, Body.present.target)) ∧
      (queue two member).lif.queue =
        [begun (req .present .mc) 3] ++ req (.snapshot 2 900 0 (List.replicate 64 0)) .tu :: [] ∧
      (∀ q ∈ two.take 1, (q.body.kind, q.body.target) ≠
        ((Body.snapshot 2 900 0 []).kind, (Body.snapshot 2 900 0 []).target)) ∧
      (req (.snapshot 2 900 0 (List.replicate 64 0)) .tu).inTransmission = false ∧
      (sends (req .leave .mc) false member).lif.queue = [] ++ req .leave .mc :: [] ∧
      (sends (req .leave .mc) false member).lif.line =
        .sending { bytes := encodeFrame (frame 0 .leave), senderByteEnded := false } := by decide +kernel
theorem witness_SelectedStationAnswers :
    member.inReset = false ∧ member.lif.line.isSending = false ∧
      receive (chars 2 (.syncreq 2 100)) = .passed (frame 2 (.syncreq 2 100)) ∧
      (frame 2 (.syncreq 2 100)).sender ≠ member.num ∧ 2 ≤ 2 ∧ member.mc.phase = .joined ∧
      member.table = some { image := group, n := 900, digest := 0x5C17 } ∧ member.tu.snapshot = none ∧
      group.pool.map (·.pool) = some 100 ∧
      group.presentStations[2 % group.presentStations.length]? = some member.num ∧
      told.tu.snapshot.map (·.joiner) = some (frame 2 (.syncreq 2 100)).sender ∧
      (shared.apply 2 (.syncreq 1 100)).2 ≠ .selected (.station told.num) ∧
      (shared.apply 2 (.syncreq 3 100)).2 = .noRange ∧ told.lif.Orderly ∧
      told.tu.snapshot.map (·.joiner) ≠ some (frame 3 (.syncreq 2 100)).sender := by
  refine ⟨?_, ?_, ?_, ?_, ?_, ?_, ?_, ?_, ?_, ?_, ?_, ?_, ?_, ⟨?_, ?_, ?_, ?_, ?_⟩, ?_⟩ <;> decide +kernel
/-- R133, R21: a foreign PRESENT applied: N rises. R23, R100: a SYNCREQ of the joiner of a snapshot ends it, out of range too;
that of another joiner does not. -/
theorem test_foreign_frames_applied :
    (run (.frameReceived (chars 1 .present) false) (line (.slots 80) member)).map
        (fun t => (t.table.map (·.n), t.lif.lastSender, t.lif.selfObjection)) = some (some 901, 1, 0) ∧
      (run (.frameReceived (chars 2 (.syncreq 3 100)) false) told).map (fun t => t.tu.snapshot.isSome) = some false ∧
      (run (.frameReceived (chars 3 (.syncreq 1 100)) false) told).map (fun t => t.tu.snapshot.isSome) = some true := by
  decide +kernel

/-- COLLECTING with this many records held. -/
def caught (n : Nat) : State :=
  { collecting 1 with tu := { (collecting 1).tu with
      catchUp := List.replicate n { sender := 1, kind := .present, body := some .present } } }

theorem witness_CollectingStoresFrames :
    (caught 23).inReset = false ∧ (caught 23).lif.line.isSending = false ∧ (caught 23).table = none ∧
      (caught 23).mc.phase = .syncing ∧ (caught 23).tu.joiner = .collecting ∧ (caught 23).tu.catchUp.length < 24 ∧
      (frame 1 .present).body.kind ≠ .snapshot ∧ receive (chars 1 .present) = .passed (frame 1 .present) ∧
      (877 : Word) = 900 - BitVec.ofNat 16 (caught 23).tu.catchUp.length ∧ (caught 23).tu.pieces = [] ∧
      24 ≤ (caught 24).tu.catchUp.length ∧ (caught 24).tu.attempt < 2 := by decide +kernel

/-- The own SYNCREQ of the first attempt on the line, in ASKING. -/
def asks : State :=
  sends (begun (req (.syncreq 0 100) .tu) 0) true
    { inPhase .syncing State.reset with tu := { State.reset.tu with joiner := .asking } }

theorem witness_CollectingStoresFrames_asking :
    asks.inReset = false ∧ asks.table = none ∧ asks.mc.phase = .syncing ∧ asks.tu.joiner = .asking ∧
      asks.lif.line = .sending (attempt (req (.syncreq 0 100) .tu) asks) ∧
      (attempt (req (.syncreq 0 100) .tu) asks).senderByteEnded = true ∧
      asks.lif.queue = [begun (req (.syncreq 0 100) .tu) 0] ∧ asks.lif.waiting = .none ∧
      receive (cleanChars (attempt (req (.syncreq 0 100) .tu) asks).bytes) = .passed (frame 0 (.syncreq 0 100)) ∧
      (line (.slots 80) asks).lif.line.isSending = false ∧ 2 ≤ (collecting 2).tu.attempt ∧
      (collecting 1).tu.attempt < 2 := by decide +kernel

/-- COLLECTING with the first four pieces of section 2.8.2's table, base 900, and no other frame between. -/
def fourPieces : State :=
  { caught 4 with tu := { (caught 4).tu with
      pieces := (List.range 4).map (pieceData fourAfter5 fourAfter5.crc)
      anchor := some 896, responder := some 1, base := some 896 } }

set_option maxRecDepth 20000 in
theorem witness_CollectingStoresFrames_fifth :
    receive (chars 1 (.snapshot 0 896 4 (pieceData fourAfter5 fourAfter5.crc 4))) =
        .passed (frame 1 (.snapshot 0 896 4 (pieceData fourAfter5 fourAfter5.crc 4))) ∧
      (0 : Nat) = fourPieces.num.val ∧ (896 : Word) = 900 - BitVec.ofNat 16 fourPieces.tu.catchUp.length ∧
      fourPieces.tu.pieces ≠ [] ∧ fourPieces.tu.responder = some 1 ∧ fourPieces.tu.base = some 896 ∧
      4 = fourPieces.tu.pieces.length ∧
      assemble (fourPieces.tu.pieces ++ [pieceData fourAfter5 fourAfter5.crc 4]) = some fourAfter5 ∧
      assemble (fourPieces.tu.pieces ++ [pieceData fourAfter5 0 4]) = none := by decide +kernel
set_option maxRecDepth 20000 in
theorem witness_CollectingStoresFrames_piece :
    receive (chars 1 (.snapshot 0 877 0 (List.replicate 64 0))) =
      .passed (frame 1 (.snapshot 0 877 0 (List.replicate 64 0))) := by decide +kernel

/-- P = 60: station 0 has nothing of its floor 20, station 1 holds all 60. -/
def short : Image := ((Image.empty.setPool 60 100).setEntry 0 (present 20 0 0)).setEntry 1 (present 40 60 0)

/-- The same with station 0 waiting and station 2, which is PRESENT with floor 0. -/
def crowded : Image :=
  { (short.setEntry 1 (present 39 60 0)).setEntry 2 (present 1 0 0) with wait := [{ station := 0, shortfall := 20 }] }

theorem witness_ClaimDividesDelta :
    fourAfter5.isPresent 11 = true ∧ fourAfter5.waits 11 = true ∧ 1 ≤ 4000 ∧
      (fourAfter5.isPresent 4 = true ∧ fourAfter5.waits 4 = false ∧ 0 < fourAfter5.entries[4].recallDue ∧
        fourAfter5.entries[4].recallDue ≤ fourAfter5.entries[4].holding - fourAfter5.entries[4].floor) ∧
      (group.isPresent 0 = true ∧ group.wait = [] ∧ group.entries[0].recallDue = 0 ∧ 10 ≤ group.freeUnits ∧
        min 11 (group.entries[0].floor - group.entries[0].holding) ≤ group.freeUnits ∧ group.freeUnits < 11) ∧
      (short.isPresent 0 = true ∧ short.wait = [] ∧ short.entries[0].recallDue = 0 ∧
        short.freeUnits < min 20 (short.entries[0].floor - short.entries[0].holding) ∧
        short.freeUnits < min 21 (short.entries[0].floor - short.entries[0].holding)) ∧
      (crowded.isPresent 2 = true ∧ crowded.wait ≠ [] ∧ crowded.waits 2 = false ∧ crowded.entries[2].recallDue = 0 ∧
        0 < min 1 (crowded.entries[2].floor - crowded.entries[2].holding)) ∧
      crowded.isPresent 1 = true ∧ crowded.waits 1 = false ∧ crowded.entries[1].recallDue = 0 ∧
      min 4000 (crowded.entries[1].floor - crowded.entries[1].holding) = 0 := by decide +kernel

/-- Section 2.3.1: two candidates of surplus 5, the claimant waiting for 8. -/
def tie : Image :=
  { ((Image.empty.setPool 100 100).setEntry 3 (present 0 5 0)).setEntry 7 (present 0 5 0) with
    wait := [{ station := 1, shortfall := 8 }] }

theorem witness_RecallAssignedBySurplus :
    (7 : Station) ≠ 1 ∧ tie.entries[7].state = .present ∧ (3 : Station) < 7 ∧
      tie.entries[7].holding - tie.entries[7].floor - tie.entries[7].recallDue =
        tie.entries[3].holding - tie.entries[3].floor - tie.entries[3].recallDue ∧
      0 < (tie.assignRecall 1).1.entries[3].recallDue - tie.entries[3].recallDue := by decide +kernel

/-- The group after section 2.8.2's step 5 meets the laws of the table. -/
theorem witness_lawful_waiting : fourAfter5.Lawful where
  unset := by decide +kernel
  pool := by
    have h : fourAfter5.pool = some { pool := 30, interval := 100 } := by decide +kernel
    intro p hp
    rw [h] at hp
    cases hp
    decide
  floors := by decide +kernel
  holdings := by decide +kernel
  absent := by decide +kernel
  lapsed := by decide +kernel
  debts := by decide +kernel
  onePerStation := by decide +kernel
  records := by decide +kernel
  noneFree := by decide +kernel

theorem witness_ReleaseServesWaitList :
    fourAfter5.isPresent 4 = true ∧ 1 ≤ 4000 ∧ fourAfter5.isPresent 20 = true ∧
      fourAfter5.entries[20].holding = 10 := by decide +kernel
theorem witness_JoinEffect :
    4000 ≤ 4000 ∧ 1000 % 10 = 0 ∧ group.pool.isSome = true ∧ group.pool ≠ some { pool := 101, interval := 100 } ∧
      group.pool = some { pool := 100, interval := 100 } ∧ group.entries[1].state = .present ∧
      group.entries[2].state = .absent ∧ Image.empty.pool = none ∧
      (group.apply 0 (.lapse 1 1)).1.entries[1].state = .lapsed := by decide +kernel
theorem witness_MembershipEndsEffects :
    fourAfter5.entries[11].state ≠ .absent ∧ fourAfter5.isPresent 9 = true ∧ fourAfter5.isPresent 4 = true ∧
      fourAfter5.isPresent 31 = false ∧ fourAfter5.entries[4].state ≠ .lapsed ∧
      ((fourAfter5.apply 9 (.lapse 4 2)).1.isPresent 9 = true ∧
        (fourAfter5.apply 9 (.lapse 4 2)).1.entries[4].state = .lapsed) := by decide +kernel
theorem witness_EffectBySenderAndRange :
    group.entries[2].state = .absent ∧ (Body.claim 1).kind ∈ ([.leave, .claim, .release, .lapse, .free] : List FrameKind) ∧
      (group.apply 0 (.lapse 1 1)).1.entries[1].state = .lapsed ∧ group.isPresent 0 = true ∧ 4000 < 4001 ∧ 1000 < 1010 ∧
      15 % 10 ≠ 0 ∧ 32 ≤ 32 ∧ (3 ≠ 1 ∧ 3 ≠ 2) ∧ 2 < 3 ∧ 4 < 5 ∧ group.pool.map (·.pool) ≠ some 101 ∧
      group.pool.map (·.pool) = some 100 ∧
      (stations.filter (fun j => (Image.empty.setPool 100 100).entries[j].state = .present)) = [] ∧
      (stations.filter (fun j => group.entries[j].state = .present))[1 % 2]? = some 1 := by decide +kernel
theorem witness_FrameSurvivesLine :
    (Body.join 65535 65535 65535).fits = true ∧ (Body.snapshot 255 0xFFFF 255 (List.replicate 64 0xFF)).fits = true ∧
      receive (chars 31 (.lapse 255 255)) = .passed (frame 31 (.lapse 255 255)) := by decide +kernel
theorem witness_ImageSurvivesPieces : fourAfter5.pool.isSome = true ∧ fourAfter5.wait ≠ [] ∧ 4 ≤ 4 := by decide +kernel

/-- A copy with this content and its digest. -/
def current (img : Image) : Table := { image := img, n := 900, digest := img.crc }

theorem current_digest (img : Image) : (current img).digest = (current img).image.crc := rfl

/-- JOINED with the section 9.8 loads, the digest current, and a command waiting. -/
def joined : State :=
  { loaded with
    table := some (current fourAfter5), num := 20, pending := [.gridAcquired] }

theorem witness_EveryStepKeepsTableLaws :
    (∃ t, step joined = .next t) ∧ joined.table.isSome = true ∧ (∀ tb, joined.table = some tb → tb.image.Lawful) ∧
      ∀ tb, joined.table = some tb → tb.digest = tb.image.crc :=
  ⟨⟨_, rfl⟩, rfl, fun _ h => by cases h; exact witness_lawful_waiting, fun _ h => by
    obtain rfl := Option.some.inj h
    exact current_digest fourAfter5⟩

/-- A full OQ, one request begun, and a full event queue. -/
def full : State := queue ({ req (.free 0) .mc with inTransmission := true, attempts := 7 } :: eight.tail) overflowed

theorem witness_EveryStepKeepsQueuesInBounds :
    full.lif.Orderly ∧ full.Bounded ∧ ∃ t, step full = .next t := by
  refine ⟨⟨?_, ?_, ?_, ?_, ?_⟩, ⟨?_, ?_, ?_, ?_, ?_, ?_, ?_, ?_, ?_, ?_, ?_⟩, ⟨_, rfl⟩⟩ <;> decide +kernel

theorem witness_joined_phase_law : doubting.PhaseLaw := by
  constructor <;> decide +kernel

theorem witness_EveryStepKeepsPhaseLaw : doubting.PhaseLaw ∧ ∃ t, step doubting = .next t :=
  ⟨witness_joined_phase_law, _, rfl⟩

theorem witness_EveryStepKeepsBudgetLaw :
    loaded.PhaseLaw ∧ loaded.BudgetLaw ∧ ∃ t, step loaded = .next t := by
  refine ⟨?_, ?_, ⟨_, rfl⟩⟩
  all_goals constructor <;> decide +kernel

theorem witness_sending_request_law : gives.RequestLaw where
  requesters := by decide +kernel
  attempt := fun _ h =>
    ⟨begun (req (.release 30) .ba) 0, [], frame 0 (.release 30), rfl, by cases h; rfl, rfl, rfl, fun _ => rfl⟩
  outside := by decide +kernel
  carried := by decide +kernel
  collecting := by decide +kernel
  count := by decide +kernel
  joining := by decide +kernel
  rejoin := by decide +kernel
  joined := by decide +kernel

theorem witness_sending_level_law : gives.LevelLaw where
  ratings := by decide +kernel
  own := by decide +kernel
  within := by decide +kernel
  elsewhere := by decide +kernel
  leave := by decide +kernel
  release := fun _ _ _ _ _ hq hb _ => by
    cases hq
    cases hb
    decide +kernel

theorem witness_EveryStepKeepsBudgetLaw_sending :
    gives.PhaseLaw ∧ gives.BudgetLaw ∧ gives.lif.Orderly ∧ gives.RequestLaw ∧ gives.LevelLaw ∧
      ∃ t, step gives = .next t := by
  refine ⟨?_, ?_, ?_, witness_sending_request_law, witness_sending_level_law, ⟨_, rfl⟩⟩
  all_goals constructor <;> decide +kernel

end Sys2Proof.Tests
end

section
/-! SUPPORT. The folds over a table image and its sums over the stations, for the effects of CLAIM and RELEASE. -/

namespace Sys2Proof.Machine

/-! ## Sums over the stations -/

variable {α : Type}

/-- What a list of amounts brings one station. -/
def unitsTo (key : α → Station) (amount : α → Nat) (as : List α) (j : Station) : Nat :=
  ((as.filter (fun a => key a = j)).map amount).sum

@[simp] theorem unitsTo_nil (key : α → Station) (amount : α → Nat) (j : Station) : unitsTo key amount [] j = 0 := rfl

@[simp] theorem unitsTo_cons (key : α → Station) (amount : α → Nat) (a : α) (as : List α) (j : Station) :
    unitsTo key amount (a :: as) j = (if key a = j then amount a else 0) + unitsTo key amount as j := by
  by_cases h : key a = j <;> simp [unitsTo, h]

/-- A station that no item of the list names is brought nothing. -/
theorem unitsTo_eq_zero {key : α → Station} {amount : α → Nat} {as : List α} {j : Station}
    (h : ∀ a ∈ as, key a ≠ j) : unitsTo key amount as j = 0 := by
  have hnone : as.filter (fun a => key a = j) = [] := List.filter_eq_nil_iff.2 (by simpa using h)
  simp [unitsTo, hnone]

/-- A station that is brought something is named by an item of the list. -/
theorem exists_mem_of_unitsTo_pos {key : α → Station} {amount : α → Nat} {as : List α} {j : Station}
    (h : 0 < unitsTo key amount as j) : ∃ a ∈ as, key a = j := by
  by_contra hnone
  push Not at hnone
  exact h.ne' (unitsTo_eq_zero hnone)

/-- Where no two items name the same station, an item's amount is all its station is brought. -/
theorem unitsTo_eq_of_mem {key : α → Station} {amount : α → Nat} {as : List α} (hnodup : (as.map key).Nodup)
    {a : α} (ha : a ∈ as) : unitsTo key amount as (key a) = amount a := by
  induction as with
  | nil => cases ha
  | cons b bs ih =>
    obtain ⟨hb, hbs⟩ := List.nodup_cons.1 hnodup
    rw [unitsTo_cons]
    rcases List.mem_cons.1 ha with rfl | ha
    · have hrest : unitsTo key amount bs (key a) = 0 :=
        unitsTo_eq_zero fun c hc h => hb (List.mem_map.2 ⟨c, hc, h⟩)
      simp [hrest]
    · have hne : key b ≠ key a := fun h => hb (List.mem_map.2 ⟨a, ha, h.symm⟩)
      simp [hne, ih hbs ha]

theorem sum_map_stations (f : Station → Nat) : (stations.map f).sum = ∑ j, f j := (Fin.sum_univ_def f).symm

/-- The stations together are brought the sum of the amounts. -/
theorem sum_unitsTo (key : α → Station) (amount : α → Nat) (as : List α) :
    ∑ j, unitsTo key amount as j = (as.map amount).sum := by
  induction as with
  | nil => simp
  | cons a as ih => simp [Finset.sum_add_distrib, ih]

theorem Image.sumOver_eq_sum (img : Image) (f : Entry → Nat) : img.sumOver f = ∑ j : Station, f img.entries[j] := by
  have hlist : img.entries.toList = (List.finRange 32).map (fun j : Station => img.entries[j]) := by
    apply List.ext_getElem <;> simp
  rw [Image.sumOver, hlist, List.map_map, Fin.sum_univ_def]
  rfl

/-- Replacing an entry exchanges its term of a sum over the entries. -/
theorem Image.sumOver_setEntry (img : Image) (f : Entry → Nat) (k : Station) (e : Entry) :
    (img.setEntry k e).sumOver f + f img.entries[k] = img.sumOver f + f e := by
  have hrest : ∑ j ∈ Finset.univ.erase k, f (img.setEntry k e).entries[j] =
      ∑ j ∈ Finset.univ.erase k, f img.entries[j] :=
    Finset.sum_congr rfl fun j hj => by rw [img.setEntry_other k j e (Finset.ne_of_mem_erase hj)]
  have hbefore := Finset.add_sum_erase Finset.univ (fun j : Station => f img.entries[j]) (Finset.mem_univ k)
  have hafter := Finset.add_sum_erase Finset.univ (fun j : Station => f (img.setEntry k e).entries[j])
    (Finset.mem_univ k)
  simp only [Image.setEntry_same] at hafter
  rw [Image.sumOver_eq_sum, Image.sumOver_eq_sum]
  omega

/-! ## Entries under the folds -/

theorem Image.setEntry_entries (img : Image) (k j : Station) (e : Entry) :
    (img.setEntry k e).entries[j] = if j = k then e else img.entries[j] := by
  split
  · next h => subst h; exact img.setEntry_same j e
  · next h => exact img.setEntry_other k j e h

@[simp] theorem Image.setEntry_self (img : Image) (k : Station) : img.setEntry k img.entries[k] = img := by
  simp [Image.setEntry]

theorem Image.addHolding_entries (img : Image) (k j : Station) (u : Nat) :
    (img.addHolding k u).entries[j] =
      { img.entries[j] with holding := img.entries[j].holding + if k = j then u else 0 } := by
  rw [Image.addHolding, Image.setEntry_entries]
  by_cases h : j = k
  · subst h; simp
  · simp [h, Ne.symm h]

theorem Image.addRecall_entries (img : Image) (k j : Station) (u : Nat) :
    (img.addRecall k u).entries[j] =
      { img.entries[j] with recallDue := img.entries[j].recallDue + if k = j then u else 0 } := by
  rw [Image.addRecall, Image.setEntry_entries]
  by_cases h : j = k
  · subst h; simp
  · simp [h, Ne.symm h]

/-- Services raise each holding by what they bring its station, and nothing else of an entry. -/
theorem Image.applyServices_entries (img : Image) (vs : List Service) (j : Station) :
    (img.applyServices vs).entries[j] =
      { img.entries[j] with holding := img.entries[j].holding + unitsTo (·.station) (·.units) vs j } := by
  induction vs generalizing img with
  | nil => rfl
  | cons v vs ih =>
    have hstep : img.applyServices (v :: vs) = (img.addHolding v.station v.units).applyServices vs := rfl
    rw [hstep, ih, Image.addHolding_entries, unitsTo_cons]
    simp only [Nat.add_assoc]

/-- Services to entries that count raise the units that count by the units given. -/
theorem Image.applyServices_counted (img : Image) (vs : List Service)
    (h : ∀ v ∈ vs, img.entries[v.station].state ≠ .absent) :
    (img.applyServices vs).sumOver Entry.counted = img.sumOver Entry.counted + (vs.map (·.units)).sum := by
  simp only [Image.sumOver_eq_sum, ← sum_unitsTo (·.station) (·.units) vs, ← Finset.sum_add_distrib]
  refine Finset.sum_congr rfl fun j _ => ?_
  rw [Image.applyServices_entries]
  by_cases hj : img.entries[j].state = .absent
  · have hnone : unitsTo (·.station) (·.units) vs j = 0 := unitsTo_eq_zero fun v hv hvj => h v hv (hvj ▸ hj)
    simp [-Fin.getElem_fin, Entry.counted, hj, hnone]
  · simp [-Fin.getElem_fin, Entry.counted, hj]

/-- The entries after a list of recall assignments: each debt raised by what they bring its station. -/
theorem Image.foldl_addRecall_entries (img : Image) (as : List (Station × Nat)) (j : Station) :
    (as.foldl (fun img a => img.addRecall a.1 a.2) img).entries[j] =
      { img.entries[j] with recallDue := img.entries[j].recallDue + unitsTo (·.1) (·.2) as j } := by
  induction as generalizing img with
  | nil => rfl
  | cons a as ih =>
    rw [List.foldl_cons, ih, Image.addRecall_entries, unitsTo_cons]
    simp only [Nat.add_assoc]

/-- Recall assignments change no record and no pool. -/
theorem Image.foldl_addRecall_rest (img : Image) (as : List (Station × Nat)) :
    (as.foldl (fun img a => img.addRecall a.1 a.2) img).pool = img.pool ∧
      (as.foldl (fun img a => img.addRecall a.1 a.2) img).wait = img.wait := by
  induction as generalizing img with
  | nil => exact ⟨rfl, rfl⟩
  | cons a as ih => exact ih (img.addRecall a.1 a.2)

end Sys2Proof.Machine
end

section
/-! PROOF. O49: the recall assignment (R37 to R39). -/

namespace Sys2Proof.Machine

/-! ## The distribution of a need (R39) -/

/-- Only candidates are assigned units, each once and in their order. -/
theorem distribute_sublist (need : Nat) (cs : List (Station × Nat)) :
    ((distribute need cs).map (·.1)).Sublist (cs.map (·.1)) := by
  induction cs generalizing need with
  | nil => simp [distribute]
  | cons c cs ih =>
    unfold distribute
    split
    · simp
    · exact (ih _).cons_cons c.1

/-- Where every candidate has a surplus, every assignment is of some units. -/
theorem distribute_pos (need : Nat) (cs : List (Station × Nat)) (h : ∀ c ∈ cs, 0 < c.2) :
    ∀ a ∈ distribute need cs, 0 < a.2 := by
  induction cs generalizing need with
  | nil => simp [distribute]
  | cons c cs ih =>
    obtain ⟨hc, hcs⟩ := List.forall_mem_cons.1 h
    unfold distribute
    split
    · simp
    · next hneed =>
      exact List.forall_mem_cons.2 ⟨lt_min hc (Nat.pos_of_ne_zero hneed), ih _ hcs⟩

@[simp] theorem distribute_zero (cs : List (Station × Nat)) : distribute 0 cs = [] := by
  cases cs <;> simp [distribute]

/-- A candidate either is assigned its whole surplus, or stands at or behind every candidate that is assigned units. -/
theorem distribute_in_order (before : Station → Station → Prop) (need : Nat) (cs : List (Station × Nat))
    (h : cs.Pairwise (fun a b => before a.1 b.1)) :
    ∀ a ∈ distribute need cs, ∀ c ∈ cs, c ∈ distribute need cs ∨ c.1 = a.1 ∨ before a.1 c.1 := by
  induction cs generalizing need with
  | nil => simp [distribute]
  | cons d cs ih =>
    obtain ⟨j, av⟩ := d
    obtain ⟨hhead, htail⟩ := List.pairwise_cons.1 h
    intro a ha c hc
    by_cases hneed : need = 0
    · subst hneed
      simp at ha
    have hcons : distribute need ((j, av) :: cs) = (j, min av need) :: distribute (need - min av need) cs := by
      rw [distribute, if_neg hneed]
    rw [hcons] at ha ⊢
    rcases List.mem_cons.1 ha with rfl | ha
    · rcases List.mem_cons.1 hc with rfl | hc
      · exact .inr (.inl rfl)
      · exact .inr (.inr (hhead c hc))
    · rcases List.mem_cons.1 hc with rfl | hc
      · have hleft : need - min av need ≠ 0 := by
          intro hzero
          simp [hzero] at ha
        have hwhole : min av need = av := by omega
        exact .inl (by simp [hwhole])
      · exact (ih _ htail a ha c hc).imp_left (List.mem_cons_of_mem _)

/-! ## The candidates (R38) -/

theorem candidateBefore_iff (img : Image) (a b : Station) :
    candidateBefore img a b = true ↔ img.entries[b].available < img.entries[a].available ∨
      (img.entries[a].available = img.entries[b].available ∧ b.val ≤ a.val) := by
  simp [candidateBefore]

theorem Image.mem_candidates (img : Image) (k j : Station) :
    j ∈ img.candidates k ↔ (j ≠ k ∧ img.entries[j].state = .present) ∧ 0 < img.entries[j].available := by
  simp [Image.candidates, mem_stations, Image.isPresent]

theorem Image.candidates_nodup (img : Image) (k : Station) : (img.candidates k).Nodup :=
  (List.perm_insertionSort _ _).nodup_iff.2 ((List.nodup_finRange 32).filter _)

theorem Image.candidates_pairwise (img : Image) (k : Station) :
    (img.candidates k).Pairwise (fun a b => candidateBefore img a b = true) := by
  have : Std.Total (fun a b => candidateBefore img a b = true) :=
    ⟨fun a b => by rw [candidateBefore_iff, candidateBefore_iff]; omega⟩
  have : IsTrans Station (fun a b => candidateBefore img a b = true) :=
    ⟨fun a b c => by rw [candidateBefore_iff, candidateBefore_iff, candidateBefore_iff]; omega⟩
  exact List.pairwise_insertionSort _ _

/-- Leaving out what has no units does not change a sum. -/
theorem sum_filter_pos {α : Type} (f : α → Nat) (as : List α) :
    ((as.filter (fun a => 0 < f a)).map f).sum = (as.map f).sum := by
  induction as with
  | nil => rfl
  | cons a as ih =>
    rcases Nat.eq_zero_or_pos (f a) with hzero | hpos
    · simp [hzero, ih]
    · simp [hpos, ih]

/-- The surpluses of the candidates sum up as those of all other PRESENT entries do: the rest have none. -/
theorem Image.candidates_sum (img : Image) (k : Station) :
    ((img.candidates k).map (fun j => img.entries[j].available)).sum =
      ((stations.filter (fun j => decide (j ≠ k ∧ img.entries[j].state = .present))).map
        (fun j => img.entries[j].available)).sum := by
  have hperm : (img.candidates k).Perm
      ((stations.filter (fun j => decide (j ≠ k ∧ img.entries[j].state = .present))).filter
        (fun j => 0 < img.entries[j].available)) := by
    refine (List.perm_insertionSort _ _).trans (.of_eq ?_)
    rw [List.filter_filter]
    refine List.filter_congr fun j _ => ?_
    rw [Bool.eq_iff_iff]
    simp [-Fin.getElem_fin, Image.isPresent]
    tauto
  rw [(hperm.map _).sum_eq, sum_filter_pos]

/-! ## The assignments (R37) -/

/-- No station is assigned units twice. -/
theorem Image.assignments_nodup (img : Image) (k : Station) : ((img.assignments k).map (·.1)).Nodup := by
  refine (distribute_sublist _ _).nodup ?_
  simpa [List.map_map, Function.comp_def] using img.candidates_nodup k

theorem Image.assignments_pos (img : Image) (k : Station) : ∀ a ∈ img.assignments k, 0 < a.2 := by
  refine distribute_pos _ _ fun c hc => ?_
  obtain ⟨j, hj, rfl⟩ := List.mem_map.1 hc
  exact ((img.mem_candidates k j).1 hj).2

/-- An assignment goes to a candidate and is within its surplus. -/
theorem Image.assignments_le (img : Image) (k : Station) {j : Station} {n : Nat} (h : (j, n) ∈ img.assignments k) :
    j ∈ img.candidates k ∧ n ≤ img.entries[j].available := by
  obtain ⟨c, hc, hcj, hle⟩ := distribute_le _ _ _ h
  obtain ⟨i, hi, rfl⟩ := List.mem_map.1 hc
  obtain rfl : i = j := hcj
  exact ⟨hi, hle⟩

/-- The assignments cover the need as far as the surpluses do. -/
theorem Image.assignments_sum (img : Image) (k : Station) :
    ((img.assignments k).map (·.2)).sum =
      min img.recallNeed ((img.candidates k).map (fun j => img.entries[j].available)).sum := by
  rw [Image.assignments, distribute_sum, List.map_map]
  rfl

/-- A candidate before an assigned one in the order of R38 is assigned its whole surplus. -/
theorem Image.assignments_in_order (img : Image) (k i : Station) (hi : i ∈ img.candidates k) :
    ∀ a ∈ img.assignments k, candidateBefore img a.1 i = false → (i, img.entries[i].available) ∈ img.assignments k := by
  intro a ha hbehind
  have hpairs : ((img.candidates k).map (fun j => (j, img.entries[j].available))).Pairwise
      (fun a b => candidateBefore img a.1 b.1 = true) :=
    List.pairwise_map.2 (img.candidates_pairwise k)
  have hself : candidateBefore img i i = true := (candidateBefore_iff img i i).2 (.inr ⟨rfl, le_rfl⟩)
  have horder := distribute_in_order (fun a b => candidateBefore img a b = true) img.recallNeed _ hpairs a ha
    (i, img.entries[i].available) (List.mem_map_of_mem hi)
  rcases horder with hmem | rfl | hbefore
  · exact hmem
  · simp [hself] at hbehind
  · simp [hbefore] at hbehind

/-- The units a claim of station `k` assigns to a station. -/
def Image.assigned (img : Image) (k j : Station) : Nat := unitsTo (·.1) (·.2) (img.assignments k) j

theorem Image.assigned_eq_of_mem (img : Image) (k : Station) {a : Station × Nat} (ha : a ∈ img.assignments k) :
    img.assigned k a.1 = a.2 :=
  unitsTo_eq_of_mem (img.assignments_nodup k) ha

/-- The assignments list each station with its units, where it has some. -/
theorem Image.mem_assignments (img : Image) (k j : Station) (n : Nat) :
    (j, n) ∈ img.assignments k ↔ 0 < img.assigned k j ∧ n = img.assigned k j := by
  constructor
  · intro hmem
    have hn := img.assigned_eq_of_mem k hmem
    have hpos := img.assignments_pos k _ hmem
    exact ⟨hn.symm ▸ hpos, hn.symm⟩
  · rintro ⟨hpos, rfl⟩
    obtain ⟨a, ha, rfl⟩ := exists_mem_of_unitsTo_pos hpos
    rwa [img.assigned_eq_of_mem k ha]

theorem Image.assignRecall_entries (img : Image) (k j : Station) :
    (img.assignRecall k).1.entries[j] =
      { img.entries[j] with recallDue := img.entries[j].recallDue + img.assigned k j } :=
  img.foldl_addRecall_entries _ j

theorem Image.assignRecall_units (img : Image) (k j : Station) :
    (img.assignRecall k).1.entries[j].recallDue - img.entries[j].recallDue = img.assigned k j := by
  rw [Image.assignRecall_entries]
  exact Nat.add_sub_cancel_left ..

theorem Image.recallNeed_eq (img : Image) :
    img.recallNeed = (img.wait.map (·.shortfall)).sum - (stations.map (fun j => img.entries[j].recallDue)).sum := by
  rw [Image.recallNeed, Image.sumOver_eq_sum, sum_map_stations]

/-- Settles O49: the assignments are a distribution over the candidates in the order of R38. -/
theorem recallAssignedBySurplus : Obligations.RecallAssignedBySurplus := by
  intro img k
  simp only [Image.assignRecall_units, ← Image.recallNeed_eq]
  obtain ⟨hpool, hwait⟩ := img.foldl_addRecall_rest (img.assignments k)
  have hmem : ∀ j, 0 < img.assigned k j → (j, img.assigned k j) ∈ img.assignments k :=
    fun j hj => (img.mem_assignments k j _).2 ⟨hj, rfl⟩
  refine ⟨hpool, hwait, img.assignRecall_entries k, fun j hj => ?_, ?_, ?_, img.assignments_nodup k,
    img.mem_assignments k⟩
  case refine_1 =>
    obtain ⟨hcandidate, hle⟩ := img.assignments_le k (hmem j hj)
    exact ⟨((img.mem_candidates k j).1 hcandidate).1, hle⟩
  case refine_2 =>
    have hsum := sum_unitsTo (·.1) (·.2) (img.assignments k)
    rw [img.assignments_sum k, img.candidates_sum k] at hsum
    rw [sum_map_stations]
    exact hsum
  case refine_3 =>
    intro i j hi hbehind hj
    obtain ⟨-, hle⟩ := img.assignments_le k (hmem j hj)
    have hsurplus : 0 < img.entries[i].available := by
      simp only [Entry.available] at hle ⊢
      omega
    have hbefore : candidateBefore img j i = false := by
      rw [Bool.eq_false_iff, ne_eq, candidateBefore_iff]
      simp only [Entry.available, Fin.lt_def] at hbehind ⊢
      omega
    exact img.assigned_eq_of_mem k
      (img.assignments_in_order k i ((img.mem_candidates k i).2 ⟨hi, hsurplus⟩) _ (hmem j hj) hbefore)

end Sys2Proof.Machine
end

section
/-! PROOF. O48: the split of a CLAIM (R31 to R36). -/

namespace Sys2Proof.Machine

/-- The effect of a CLAIM within its range by a PRESENT station. -/
theorem Image.apply_claim (img : Image) (k : Station) (delta : Nat) (hpresent : img.isPresent k = true)
    (hmin : 1 ≤ delta) (hmax : delta ≤ 4000) :
    img.apply k (.claim delta) = ((img.claim k delta).1, .claimed (img.claim k delta).2) := by
  simp [Image.apply, Image.senderAllows, Body.kind, Body.inRange, Image.effect, hpresent, hmin, hmax]

theorem Image.waits_of_wait_nil (img : Image) (k : Station) (h : img.wait = []) : img.waits k = false := by
  simp [Image.waits, h]

@[simp] theorem Image.addHolding_zero (img : Image) (k : Station) : img.addHolding k 0 = img :=
  img.setEntry_self k

/-- A claim of a station that waits already is refused whole (R31). -/
theorem Image.claim_of_waits (img : Image) (k : Station) (delta : Nat) (h : img.waits k = true) :
    img.claim k delta =
      (img, { delta := delta, granted := 0, guaranteed := 0, surplus := 0, queued := 0, refused := delta,
              reason := some .alreadyWaiting, assigned := [] }) := by
  simp [Image.claim, h]

/-- A claim that queues nothing: its image and outcome by the units granted. -/
theorem Image.claim_of_none_queued (img : Image) (k : Station) (delta a : Nat) (hwaits : img.waits k = false)
    (ha : grantedUnits img k delta = a) (hg : guaranteedPart img.entries[k] delta ≤ a) :
    img.claim k delta =
      (img.addHolding k a,
        { delta := delta, granted := a, guaranteed := min (guaranteedPart img.entries[k] delta) a
          surplus := a - min (guaranteedPart img.entries[k] delta) a, queued := 0, refused := delta - a
          reason := refusalReason img k (delta - a), assigned := [] }) := by
  have hqueued : guaranteedPart img.entries[k] delta - a = 0 := Nat.sub_eq_zero_of_le hg
  simp [-Fin.getElem_fin, Image.claim, hwaits, ha, hqueued]

/-- A claim whose guaranteed part is not all granted: the rest of that part is queued and recall assigned. -/
theorem Image.claim_of_some_queued (img : Image) (k : Station) (delta a : Nat) (hwaits : img.waits k = false)
    (ha : grantedUnits img k delta = a) (hg : a < guaranteedPart img.entries[k] delta) :
    img.claim k delta =
      let q := guaranteedPart img.entries[k] delta - a
      let r := ((img.addHolding k a).append k q).assignRecall k
      (r.1,
        { delta := delta, granted := a, guaranteed := min (guaranteedPart img.entries[k] delta) a
          surplus := a - min (guaranteedPart img.entries[k] delta) a, queued := q, refused := delta - a - q
          reason := refusalReason img k (delta - a - q), assigned := r.2 }) := by
  have hqueued : 0 < guaranteedPart img.entries[k] delta - a := Nat.sub_pos_of_lt hg
  simp only [Image.claim, hwaits, ha, hqueued, if_true, Bool.false_eq_true, if_false]

/-! ## The units granted (R33 to R35) -/

/-- The guaranteed part is within the claim (R32). -/
theorem guaranteedPart_le (e : Entry) (delta : Nat) : guaranteedPart e delta ≤ delta := Nat.min_le_left ..

/-- An entry above its floor has no guaranteed part (R32). -/
theorem guaranteedPart_above_floor (e : Entry) (delta : Nat) (h : e.floor ≤ e.holding) :
    guaranteedPart e delta = 0 := by
  simp [guaranteedPart, Nat.sub_eq_zero_of_le h]

/-- Nothing is granted while a record waits (R33). -/
theorem grantedUnits_of_waiting (img : Image) (k : Station) (delta : Nat) (h : img.wait ≠ []) :
    grantedUnits img k delta = 0 := by
  simp [grantedUnits, h]

/-- While nobody waits, a claimant that owes nothing is granted what is free of its claim (R34, R35). -/
theorem grantedUnits_of_free (img : Image) (k : Station) (delta : Nat) (hwait : img.wait = [])
    (hdue : img.entries[k].recallDue = 0) : grantedUnits img k delta = min delta img.freeUnits := by
  have hsplit := Nat.add_sub_cancel' (guaranteedPart_le img.entries[k] delta)
  simp only [grantedUnits, hwait, hdue, hsplit, List.isEmpty_nil, if_true, Nat.lt_irrefl, if_false]

/-- A debtor is granted nothing beyond its guaranteed part (R34). -/
theorem grantedUnits_of_debtor (img : Image) (k : Station) (delta : Nat) (hdue : 0 < img.entries[k].recallDue)
    (hg : guaranteedPart img.entries[k] delta = 0) : grantedUnits img k delta = 0 := by
  simp [-Fin.getElem_fin, grantedUnits, hdue, hg]

/-! ## The reason of a refused part (R36) -/

theorem refusalReason_of_debtor (img : Image) (k : Station) (refused : Nat) (hdue : 0 < img.entries[k].recallDue)
    (h : 0 < refused) : refusalReason img k refused = some .debtor := by
  simp only [refusalReason, if_neg h.ne', if_pos hdue]

theorem refusalReason_of_free (img : Image) (k : Station) (refused : Nat) (hwait : img.wait = [])
    (hdue : img.entries[k].recallDue = 0) :
    refusalReason img k refused = if 0 < refused then some .poolShort else none := by
  rcases Nat.eq_zero_or_pos refused with rfl | h
  · simp [refusalReason]
  · simp [-Fin.getElem_fin, refusalReason, hdue, hwait, h, h.ne']

theorem refusalReason_of_waiting (img : Image) (k : Station) (refused : Nat) (hwait : img.wait ≠ [])
    (hdue : img.entries[k].recallDue = 0) :
    refusalReason img k refused = if 0 < refused then some .listNotEmpty else none := by
  rcases Nat.eq_zero_or_pos refused with rfl | h
  · simp [refusalReason]
  · simp [-Fin.getElem_fin, refusalReason, hdue, hwait, h, h.ne']

/-- Settles O48, by the cases of R36. -/
theorem claimDividesDelta : Obligations.ClaimDividesDelta := by
  intro img k delta hpresent hmin hmax
  have hle := guaranteedPart_le img.entries[k] delta
  have hg : min delta (img.entries[k].floor - img.entries[k].holding) = guaranteedPart img.entries[k] delta := rfl
  simp only [img.apply_claim k delta hpresent hmin hmax, hg]
  refine ⟨fun hwaits => ?alreadyWaiting, fun hwaits hdue hlaw => ?debtor, fun hwait hdue hfree => ?allGranted,
    fun hwait hdue hgfree hfree => ?surplusShort, fun hwait hdue hfree => ?queuedPart,
    fun hwait hwaits hdue hpart => ?behindOthers, fun hwait hwaits hdue hpart => ?listNotEmpty⟩
  case alreadyWaiting =>
    rw [img.claim_of_waits k delta hwaits]
    simp
  case debtor =>
    have hzero := guaranteedPart_above_floor img.entries[k] delta (by omega)
    have hreason := refusalReason_of_debtor img k delta hdue hmin
    rw [img.claim_of_none_queued k delta 0 hwaits (grantedUnits_of_debtor img k delta hdue hzero) hzero.le]
    simp [hreason]
  case allGranted =>
    have hgranted : grantedUnits img k delta = delta := by
      rw [grantedUnits_of_free img k delta hwait hdue, Nat.min_eq_left hfree]
    rw [img.claim_of_none_queued k delta delta (img.waits_of_wait_nil k hwait) hgranted hle,
      refusalReason_of_free img k _ hwait hdue]
    simp [-Fin.getElem_fin, Image.addHolding]
  case surplusShort =>
    have hgranted : grantedUnits img k delta = img.freeUnits := by
      rw [grantedUnits_of_free img k delta hwait hdue, Nat.min_eq_right hfree.le]
    rw [img.claim_of_none_queued k delta _ (img.waits_of_wait_nil k hwait) hgranted hgfree,
      refusalReason_of_free img k _ hwait hdue]
    simp [-Fin.getElem_fin, Image.addHolding, hfree]
  case queuedPart =>
    have hgranted : grantedUnits img k delta = img.freeUnits := by
      rw [grantedUnits_of_free img k delta hwait hdue, Nat.min_eq_right (by omega)]
    have hrefused : 0 < delta - img.freeUnits - (guaranteedPart img.entries[k] delta - img.freeUnits) ↔
        guaranteedPart img.entries[k] delta < delta := by omega
    simp only [img.claim_of_some_queued k delta _ (img.waits_of_wait_nil k hwait) hgranted hfree,
      refusalReason_of_free img k _ hwait hdue, hrefused]
    rfl
  case behindOthers =>
    have hrefused : 0 < delta - 0 - (guaranteedPart img.entries[k] delta - 0) ↔
        guaranteedPart img.entries[k] delta < delta := by omega
    simp only [img.claim_of_some_queued k delta 0 hwaits (grantedUnits_of_waiting img k delta hwait) hpart,
      refusalReason_of_waiting img k _ hwait hdue, hrefused, Image.addHolding_zero]
    rfl
  case listNotEmpty =>
    rw [img.claim_of_none_queued k delta 0 hwaits (grantedUnits_of_waiting img k delta hwait) hpart.le,
      refusalReason_of_waiting img k _ hwait hdue]
    simp [Nat.pos_iff_ne_zero.1 hmin]

end Sys2Proof.Machine
end

section
/-! PROOF. O50: RELEASE and the serving of the wait list (R41 to R44, R46). -/

namespace Sys2Proof.Machine

/-- The effect of a RELEASE within its range by a PRESENT station. -/
theorem Image.apply_release (img : Image) (k : Station) (amount : Nat) (hpresent : img.isPresent k = true)
    (hmin : 1 ≤ amount) (hmax : amount ≤ 4000) :
    img.apply k (.release amount) = ((img.release k amount).1, .released (img.release k amount).2) := by
  simp [Image.apply, Image.senderAllows, Body.kind, Body.inRange, Image.effect, hpresent, hmin, hmax]

/-! ## The walk by position (R44) -/

/-- The units given to the record `w` at place `i` when `u` units are served: what it lacks of those the records before
it leave. -/
def givenUnits (u : Nat) (ws : List WaitRecord) (i : Nat) (w : WaitRecord) : Nat :=
  min w.shortfall (u - ((ws.take i).map (·.shortfall)).sum)

@[simp] theorem givenUnits_head (u : Nat) (ws : List WaitRecord) (w : WaitRecord) :
    givenUnits u ws 0 w = min w.shortfall u := by
  simp [givenUnits]

@[simp] theorem givenUnits_tail (u : Nat) (w : WaitRecord) (ws : List WaitRecord) (i : Nat) (v : WaitRecord) :
    givenUnits u (w :: ws) (i + 1) v = givenUnits (u - w.shortfall) ws i v := by
  simp [givenUnits, Nat.sub_sub]

/-- The service of the record at place `i`. -/
def serviceAt (u : Nat) (ws : List WaitRecord) (i : Nat) (w : WaitRecord) : Service :=
  { station := w.station, units := givenUnits u ws i w, removed := givenUnits u ws i w = w.shortfall }

/-- The record at place `i` after its service. -/
def recordAfter (u : Nat) (ws : List WaitRecord) (i : Nat) (w : WaitRecord) : WaitRecord :=
  { w with shortfall := w.shortfall - givenUnits u ws i w }

/-- Without units nobody is served. -/
@[simp] theorem serveList_zero (ws : List WaitRecord) : serveList 0 ws = { services := [], wait := ws, left := 0 } := by
  cases ws <;> simp [serveList]

/-- The walk at a record that lacks units, whether it is served whole, in part or not at all. -/
theorem serveList_cons (u : Nat) (w : WaitRecord) (ws : List WaitRecord) (h : 0 < w.shortfall) :
    serveList u (w :: ws) =
      let r := serveList (u - w.shortfall) ws
      let given := min w.shortfall u
      { services :=
          (if 0 < given then [{ station := w.station, units := given, removed := given = w.shortfall }] else []) ++
            r.services
        wait := (if 0 < w.shortfall - given then [{ w with shortfall := w.shortfall - given }] else []) ++ r.wait
        left := r.left } := by
  rcases Nat.eq_zero_or_pos u with rfl | hu
  · simp [h]
  · by_cases hle : w.shortfall ≤ u
    · simp [serveList, hu.ne', hle, h]
    · have hgiven : min w.shortfall u = u := by omega
      have hrest : u - w.shortfall = 0 := by omega
      have hlack : u < w.shortfall := Nat.lt_of_not_le hle
      simp [serveList, hu.ne', hu, hle, hgiven, hrest, hlack.ne, hlack]

/-- The walk from the head serves each record at its place what it lacks of the units still left. -/
theorem serveList_by_position (u : Nat) (ws : List WaitRecord) (h : ∀ w ∈ ws, 0 < w.shortfall) :
    serveList u ws =
      { services := (ws.mapIdx (serviceAt u ws)).filter (fun v => 0 < v.units)
        wait := (ws.mapIdx (recordAfter u ws)).filter (fun w => 0 < w.shortfall)
        left := u - (ws.map (·.shortfall)).sum } := by
  induction ws generalizing u with
  | nil => simp [serveList]
  | cons w ws ih =>
    obtain ⟨hw, hws⟩ := List.forall_mem_cons.1 h
    have hservice : (fun i => serviceAt u (w :: ws) (i + 1)) = serviceAt (u - w.shortfall) ws := by
      funext i v; simp [serviceAt]
    have hrecord : (fun i => recordAfter u (w :: ws) (i + 1)) = recordAfter (u - w.shortfall) ws := by
      funext i v; simp [recordAfter]
    rw [serveList_cons u w ws hw, ih _ hws]
    simp only [List.mapIdx_cons, hservice, hrecord, List.filter_cons, List.map_cons, List.sum_cons, Nat.sub_sub]
    simp only [serviceAt, recordAfter, givenUnits_head]
    congr 1
    · split <;> simp_all
    · split <;> simp_all

/-- Every service is of a record of the list served. -/
theorem exists_record_of_service (u : Nat) (ws : List WaitRecord) (h : ∀ w ∈ ws, 0 < w.shortfall) :
    ∀ v ∈ (serveList u ws).services, ∃ w ∈ ws, w.station = v.station := by
  intro v hv
  rw [serveList_by_position u ws h] at hv
  obtain ⟨i, hi, rfl⟩ := List.mem_mapIdx.1 (List.mem_filter.1 hv).1
  exact ⟨_, List.getElem_mem hi, rfl⟩

/-! ## Serving an image -/

@[simp] theorem Image.serve_pool (img : Image) (u : Nat) : (img.serve u).1.pool = img.pool :=
  (Image.applyServices_rest _ _).1

@[simp] theorem Image.serve_wait (img : Image) (u : Nat) : (img.serve u).1.wait = (serveList u img.wait).wait :=
  (Image.applyServices_rest _ _).2

theorem Image.serve_entries (img : Image) (u : Nat) (j : Station) :
    (img.serve u).1.entries[j] =
      { img.entries[j] with
        holding := img.entries[j].holding + unitsTo (·.station) (·.units) (serveList u img.wait).services j } :=
  Image.applyServices_entries _ _ j

/-- Serving stations that count, the units served and not left over count again. -/
theorem Image.serve_counted (img : Image) (u : Nat)
    (h : ∀ w ∈ img.wait, img.entries[w.station].state ≠ .absent ∧ 0 < w.shortfall) :
    (img.serve u).1.sumOver Entry.counted + (serveList u img.wait).left = img.sumOver Entry.counted + u := by
  have hserved : ∀ v ∈ (serveList u img.wait).services, img.entries[v.station].state ≠ .absent := by
    intro v hv
    obtain ⟨w, hw, hstation⟩ := exists_record_of_service u img.wait (fun w hw => (h w hw).2) v hv
    simpa only [hstation] using (h w hw).1
  have hcounted : (img.serve u).1.sumOver Entry.counted =
      img.sumOver Entry.counted + ((serveList u img.wait).services.map (·.units)).sum :=
    Image.applyServices_counted { img with wait := (serveList u img.wait).wait } _ hserved
  have hunits := serveList_units u img.wait
  omega

/-! ## The effect of a RELEASE (R41, R42) -/

/-- The image after a RELEASE of `x` units, before they are served. -/
def Image.giveBack (img : Image) (k : Station) (x : Nat) : Image :=
  img.setEntry k
    { img.entries[k] with holding := img.entries[k].holding - x, recallDue := img.entries[k].recallDue - x }

@[simp] theorem Image.giveBack_pool (img : Image) (k : Station) (x : Nat) : (img.giveBack k x).pool = img.pool := rfl

@[simp] theorem Image.giveBack_wait (img : Image) (k : Station) (x : Nat) : (img.giveBack k x).wait = img.wait := rfl

theorem Image.giveBack_entries (img : Image) (k j : Station) (x : Nat) :
    (img.giveBack k x).entries[j] =
      if j = k then
        { img.entries[k] with holding := img.entries[k].holding - x, recallDue := img.entries[k].recallDue - x }
      else img.entries[j] :=
  img.setEntry_entries k j _

/-- A station that gives units back keeps its state. -/
theorem Image.giveBack_state (img : Image) (k j : Station) (x : Nat) :
    (img.giveBack k x).entries[j].state = img.entries[j].state := by
  rw [Image.giveBack_entries]
  split
  · next h => rw [h]
  · rfl

/-- Units given back by an entry that counts no longer count. -/
theorem Image.giveBack_counted (img : Image) (k : Station) (x : Nat) (hstate : img.entries[k].state ≠ .absent)
    (hx : x ≤ img.entries[k].holding) :
    (img.giveBack k x).sumOver Entry.counted + x = img.sumOver Entry.counted := by
  have hset := img.sumOver_setEntry Entry.counted k
    { img.entries[k] with holding := img.entries[k].holding - x, recallDue := img.entries[k].recallDue - x }
  simp only [Entry.counted, if_neg hstate] at hset
  simp only [Image.giveBack]
  omega

/-- A RELEASE gives back what the station holds of the amount and serves it. -/
theorem Image.release_eq (img : Image) (k : Station) (amount : Nat) :
    img.release k amount =
      let x := min amount img.entries[k].holding
      (((img.giveBack k x).serve x).1,
        { amount := amount, released := x, before := img.entries[k].recallDue, after := img.entries[k].recallDue - x
          served := serveList x img.wait }) := rfl

theorem Image.poolUnits_congr {img img' : Image} (h : img.pool = img'.pool) : img.poolUnits = img'.poolUnits := by
  simp [Image.poolUnits, h]

/-- The units given back and served are given to the wait list or become free. -/
theorem Image.serve_giveBack_freeUnits (img : Image) (k : Station) (x : Nat) (hlawful : img.Lawful)
    (hstate : img.entries[k].state ≠ .absent) (hx : x ≤ img.entries[k].holding) :
    ((img.giveBack k x).serve x).1.freeUnits = img.freeUnits + (serveList x img.wait).left := by
  have hrecords : ∀ w ∈ (img.giveBack k x).wait,
      (img.giveBack k x).entries[w.station].state ≠ .absent ∧ 0 < w.shortfall := by
    intro w hw
    obtain ⟨hpresent, hlacks, -⟩ := hlawful.records w hw
    exact ⟨by simp [Image.giveBack_state, -Fin.getElem_fin, hpresent], hlacks⟩
  have hserved := (img.giveBack k x).serve_counted x hrecords
  have hback := img.giveBack_counted k x hstate hx
  have hpool : ((img.giveBack k x).serve x).1.poolUnits = img.poolUnits := Image.poolUnits_congr (by simp)
  have hlaw := hlawful.holdings
  simp only [Image.freeUnits, hpool]
  simp only [Image.giveBack_wait] at hserved
  omega

/-- Settles O50: the walk of R44 by position, the entries served, and the units that count. -/
theorem releaseServesWaitList : Obligations.ReleaseServesWaitList := by
  intro img k amount hlawful hpresent hmin hmax
  have hstate : img.entries[k].state ≠ .absent := by
    simp only [Image.isPresent, beq_iff_eq] at hpresent
    simp [-Fin.getElem_fin, hpresent]
  have hwalk := serveList_by_position (min amount img.entries[k].holding) img.wait
    fun w hw => (hlawful.records w hw).2.1
  have hfree := img.serve_giveBack_freeUnits k _ hlawful hstate (Nat.min_le_right amount img.entries[k].holding)
  simp only [img.apply_release k amount hpresent hmin hmax, Image.release_eq, Image.serve_wait, Image.serve_pool,
    Image.giveBack_wait, Image.giveBack_pool, Image.serve_entries, Image.giveBack_entries, hwalk, hfree]
  exact ⟨rfl, trivial, rfl, fun j => rfl, trivial⟩

end Sys2Proof.Machine
end

section
/-! PROOF. O52: the effects of LEAVE, LAPSE and FREE (R45, R75 to R77). -/

namespace Sys2Proof.Machine

/-! ## The frames that have the effect (R22, R23) -/

theorem Image.isPresent_iff (img : Image) (k : Station) :
    img.isPresent k = true ↔ img.entries[k].state = .present := beq_iff_eq

theorem Image.apply_leave (img : Image) (k : Station) (hsender : img.entries[k].state ≠ .absent) :
    img.apply k .leave = img.leave k := by
  simp [-Fin.getElem_fin, Image.apply, Image.senderAllows, Body.kind, Body.inRange, Image.effect, hsender]

theorem Image.apply_lapse (img : Image) (k t : Station) (cause : Nat) (hsender : img.isPresent k = true)
    (hcause : cause = 1 ∨ cause = 2) : img.apply k (.lapse t.val cause) = img.lapse t cause := by
  rcases hcause with rfl | rfl <;>
    simp [Image.apply, Image.senderAllows, Body.kind, Body.inRange, Image.effect, lapseSilent, lapseRecall, hsender]

theorem Image.apply_free (img : Image) (k t : Station) (hsender : img.isPresent k = true) :
    img.apply k (.free t.val) = img.freeEntry t := by
  simp [Image.apply, Image.senderAllows, Body.kind, Body.inRange, Image.effect, hsender]

/-! ## The wait list without a station (R9) -/

@[simp] theorem Image.dropRecord_entries (img : Image) (j : Station) : (img.dropRecord j).entries = img.entries := rfl

theorem Image.dropRecord_eq (img : Image) (j : Station) :
    img.dropRecord j = { img with wait := img.wait.filter (fun w => w.station ≠ j) } := by
  have hsame : (fun w : WaitRecord => w.station != j) = fun w => decide (w.station ≠ j) := by
    funext w
    rw [Bool.eq_iff_iff]
    simp
  rw [Image.dropRecord, hsame]

theorem Image.dropRecord_wait (img : Image) (j : Station) :
    (img.dropRecord j).wait = img.wait.filter (fun w => w.station ≠ j) := by
  rw [Image.dropRecord_eq]

theorem Image.mem_dropRecord_wait (img : Image) (j : Station) (w : WaitRecord) :
    w ∈ (img.dropRecord j).wait ↔ w ∈ img.wait ∧ w.station ≠ j := by
  simp [Image.dropRecord_wait]

/-- Only a PRESENT station waits, so there is no record of another to remove (R10). -/
theorem Image.Lawful.dropRecord_of_not_present {img : Image} (hlawful : img.Lawful) {j : Station}
    (hstate : img.entries[j].state ≠ .present) : img.dropRecord j = img := by
  have hnone : ∀ w ∈ img.wait, w.station ≠ j := by
    rintro w hw rfl
    exact hstate (hlawful.records w hw).1
  rw [Image.dropRecord_eq, List.filter_eq_self.2 (by simpa using hnone)]

/-! ## A membership ended (R45, R75, R77) -/

/-- The image with the record of `j` removed and its entry emptied, before the units the entry held are served. -/
def Image.vacate (img : Image) (j : Station) : Image := (img.dropRecord j).setEntry j Entry.empty

@[simp] theorem Image.vacate_pool (img : Image) (j : Station) : (img.vacate j).pool = img.pool := rfl

theorem Image.vacate_wait (img : Image) (j : Station) :
    (img.vacate j).wait = img.wait.filter (fun w => w.station ≠ j) := img.dropRecord_wait j

theorem Image.vacate_entries (img : Image) (j i : Station) :
    (img.vacate j).entries[i] = if i = j then Entry.empty else img.entries[i] :=
  (img.dropRecord j).setEntry_entries j i _

theorem Image.leave_eq (img : Image) (k : Station) :
    img.leave k =
      let r := (img.vacate k).serve img.entries[k].holding
      (r.1, .left img.entries[k].state img.entries[k].holding r.2) := rfl

theorem Image.lapse_of_present (img : Image) (t : Station) (cause : Nat) (h : img.entries[t].state = .present) :
    img.lapse t cause =
      ((img.dropRecord t).setEntry t { img.entries[t] with state := .lapsed, recallDue := 0 },
        .lapsed t img.entries[t].holding cause) := if_pos h

theorem Image.lapse_of_not_present (img : Image) (t : Station) (cause : Nat) (h : img.entries[t].state ≠ .present) :
    img.lapse t cause = (img, .notPresent) := if_neg h

theorem Image.freeEntry_of_not_lapsed (img : Image) (t : Station) (h : img.entries[t].state ≠ .lapsed) :
    img.freeEntry t = (img, .notLapsed) := if_neg h

/-- A LAPSED station has no record, so FREE ends its membership as LEAVE does that of its sender. -/
theorem Image.Lawful.freeEntry_of_lapsed {img : Image} (hlawful : img.Lawful) (t : Station)
    (h : img.entries[t].state = .lapsed) :
    img.freeEntry t =
      let r := (img.vacate t).serve img.entries[t].holding
      (r.1, .freed t img.entries[t].holding r.2) := by
  have hvacate : img.vacate t = img.setEntry t Entry.empty := by
    rw [Image.vacate, hlawful.dropRecord_of_not_present (by simp [-Fin.getElem_fin, h])]
  rw [hvacate]
  exact if_pos h

/-! ## Serving what the membership held (R44, R45) -/

/-- The stations that still wait are PRESENT. -/
theorem Image.Lawful.vacate_records {img : Image} (hlawful : img.Lawful) (j : Station) :
    ∀ w ∈ (img.vacate j).wait,
      w.station ≠ j ∧ (img.vacate j).entries[w.station].state ≠ .absent ∧ 0 < w.shortfall := by
  intro w hw
  obtain ⟨hwait, hother⟩ := (img.mem_dropRecord_wait j w).1 hw
  obtain ⟨hpresent, hlacks, -⟩ := hlawful.records w hwait
  refine ⟨hother, ?_, hlacks⟩
  rw [Image.vacate_entries, if_neg hother, hpresent]
  decide

/-- The emptied entry is served nothing. -/
theorem Image.Lawful.serve_vacate_same {img : Image} (hlawful : img.Lawful) (j : Station) (u : Nat) :
    ((img.vacate j).serve u).1.entries[j] = Entry.empty := by
  have hrecords := hlawful.vacate_records j
  have hnone : unitsTo (·.station) (·.units) (serveList u (img.vacate j).wait).services j = 0 := by
    refine unitsTo_eq_zero fun v hv => ?_
    obtain ⟨w, hw, hstation⟩ := exists_record_of_service u _ (fun w hw => (hrecords w hw).2.2) v hv
    exact hstation ▸ (hrecords w hw).1
  rw [Image.serve_entries, hnone, Image.vacate_entries, if_pos rfl]
  rfl

/-- The units of the emptied entry no longer count. -/
theorem Image.vacate_counted (img : Image) (j : Station) (hstate : img.entries[j].state ≠ .absent) :
    (img.vacate j).sumOver Entry.counted + img.entries[j].holding = img.sumOver Entry.counted := by
  have hset := (img.dropRecord j).sumOver_setEntry Entry.counted j Entry.empty
  have hsame : (img.dropRecord j).sumOver Entry.counted = img.sumOver Entry.counted := rfl
  have hempty : Entry.empty.counted = 0 := rfl
  have hcounted : img.entries[j].counted = img.entries[j].holding := if_neg hstate
  rwa [Image.dropRecord_entries, hsame, hempty, hcounted, Nat.add_zero] at hset

/-- What serving the held units leaves over becomes free. -/
theorem Image.Lawful.serve_vacate_freeUnits {img : Image} (hlawful : img.Lawful) (j : Station)
    (hstate : img.entries[j].state ≠ .absent) :
    ((img.vacate j).serve img.entries[j].holding).1.freeUnits =
      img.freeUnits + (serveList img.entries[j].holding (img.vacate j).wait).left := by
  have hserved := (img.vacate j).serve_counted img.entries[j].holding fun w hw => (hlawful.vacate_records j w hw).2
  have hvacated := img.vacate_counted j hstate
  have hpool : ((img.vacate j).serve img.entries[j].holding).1.poolUnits = img.poolUnits :=
    Image.poolUnits_congr (by simp)
  have hlaw := hlawful.holdings
  simp only [Image.freeUnits, hpool]
  omega

/-- The end of the membership of `j` (R45): `after` is the image with its entry emptied, and `v` the serving of the units it
held to the stations that still wait. -/
def Image.MembershipServed (img : Image) (j : Station) (after : Image) (v : Served) : Prop :=
  after.pool = img.pool ∧ after.entries[j] = Entry.empty ∧ after.wait = v.wait ∧
    (v.services.map (·.units)).sum + v.left = img.entries[j].holding ∧
    v = serveList img.entries[j].holding (img.wait.filter (fun w => w.station ≠ j)) ∧
    (∀ i : Station, i ≠ j → after.entries[i] =
      { img.entries[i] with holding := img.entries[i].holding + unitsTo (·.station) (·.units) v.services i }) ∧
    after.freeUnits = img.freeUnits + v.left

theorem Image.Lawful.serve_vacate {img : Image} (hlawful : img.Lawful) (j : Station)
    (hstate : img.entries[j].state ≠ .absent) :
    img.MembershipServed j ((img.vacate j).serve img.entries[j].holding).1
      ((img.vacate j).serve img.entries[j].holding).2 := by
  refine ⟨Image.serve_pool _ _, hlawful.serve_vacate_same j _, Image.serve_wait _ _, serveList_units _ _,
    congrArg (serveList _) (img.vacate_wait j), fun i hi => ?_, hlawful.serve_vacate_freeUnits j hstate⟩
  rw [Image.serve_entries, Image.vacate_entries, if_neg hi]
  rfl

/-- Settles O52, by the frame kind and the state of its target. -/
theorem membershipEndsEffects : Obligations.MembershipEndsEffects := by
  intro img k t cause hlawful hcause without emptied
  refine ⟨fun hmember => ?leave, fun hsender htarget => ?lapse, fun hsender htarget => ?lapseOther,
    fun hsender htarget => ?free, fun hsender htarget => ?freeOther⟩
  case leave =>
    rw [img.apply_leave k hmember, Image.leave_eq]
    exact ⟨_, rfl, hlawful.serve_vacate k hmember⟩
  case lapse =>
    rw [img.apply_lapse k t cause hsender hcause, img.lapse_of_present t cause ((img.isPresent_iff t).1 htarget),
      Image.dropRecord_eq]
  case lapseOther =>
    have hother : img.entries[t].state ≠ .present := by
      rw [ne_eq, ← Image.isPresent_iff, htarget]
      decide
    rw [img.apply_lapse k t cause hsender hcause, img.lapse_of_not_present t cause hother]
  case free =>
    have hmember : img.entries[t].state ≠ .absent := by
      rw [htarget]
      decide
    rw [img.apply_free k t hsender, hlawful.freeEntry_of_lapsed t htarget]
    exact ⟨_, rfl, hlawful.serve_vacate t hmember⟩
  case freeOther =>
    rw [img.apply_free k t hsender, img.freeEntry_of_not_lapsed t htarget]

end Sys2Proof.Machine
end

section
/-! SUPPORT. A host command that the transaction allows is taken (R196): what `exec` then answers. -/

namespace Sys2Proof.Machine

theorem taken_of_ready {code : Byte} {params : List Byte} {s : State} (h : portReady code params s = true)
    (effect : State → State) : taken code params effect s = effect s := if_pos h

theorem inReset_of_ready {code : Byte} {params : List Byte} {s : State} (h : portReady code params s = true) :
    s.inReset = false := by
  simp only [portReady, Bool.and_eq_true, Bool.not_eq_true'] at h
  obtain ⟨hrunning, _⟩ := h
  exact hrunning

theorem exec_popEvent_of_ready {s : State} (h : portReady codePopEvent [] s = true) :
    exec .popEvent s = .next (popEventTaken s) := congrArg _ (taken_of_ready h _)

theorem exec_writeConfig_of_ready {block : ConfigBlock} {s : State}
    (h : portReady codeWriteConfig (configBytes block) s = true) :
    exec (.writeConfig block) s = .next (writeConfigTaken block s) := congrArg _ (taken_of_ready h _)

theorem exec_writeEnables_of_ready {enables : Byte} {s : State} (h : portReady codeWriteEnables [enables] s = true) :
    exec (.writeEnables enables) s = .next (writeEnablesTaken enables s) := congrArg _ (taken_of_ready h _)

theorem exec_clearFlags_of_ready {mask : Byte} {s : State} (h : portReady codeClearFlags [mask] s = true) :
    exec (.clearFlags mask) s = .next (clearFlagsTaken mask s) := congrArg _ (taken_of_ready h _)

theorem exec_start_of_ready {s : State} (h : portReady codeStart [] s = true) :
    exec .start s = .next (startTaken s) := congrArg _ (taken_of_ready h _)

end Sys2Proof.Machine
end

section
/-! PROOF. O14: posts and POP_EVENT (R207 to R209, R212). -/

namespace Sys2Proof.Machine

/-! ## Posts (R207, R208, R212) -/

@[simp] theorem markLast_append (es : List EventRecord) (e : EventRecord) :
    markLast (es ++ [e]) = es ++ [{ e with lostAfter := true }] := by
  induction es with
  | nil => rfl
  | cons x es ih =>
    have hcons : ∀ y ys, markLast (x :: (ys ++ [y])) = x :: markLast (ys ++ [y]) := by
      intro y ys; cases ys <;> rfl
    rw [List.cons_append, hcons, ih, List.cons_append]

theorem Hp.post_of_room {hp : Hp} (h : hp.events.length < eventCapacity) (kind : EventKind) (n a c : Nat) :
    hp.post kind n a c =
      { hp with
        events := hp.events ++ [{ kind := kind, station := n, amount := a, cause := c, lostAfter := false }]
        flags := hp.flags ||| classFlag kind } := if_pos h

theorem Hp.post_of_full {hp : Hp} (h : eventCapacity ≤ hp.events.length) (kind : EventKind) (n a c : Nat) :
    hp.post kind n a c =
      { hp with events := markLast hp.events, flags := hp.flags ||| classFlag kind ||| flagQueue } :=
  if_neg (Nat.not_lt.mpr h)

/-! ## POP_EVENT (R209) -/

theorem popEventTaken_of_nil {s : State} (h : s.hp.events = []) : popEventTaken s = answer [emptyResult] s := by
  simp [popEventTaken, h]

theorem popEventTaken_of_cons {s : State} {e : EventRecord} {rest : List EventRecord} (h : s.hp.events = e :: rest) :
    popEventTaken s = answer (accepted :: eventBytes e) { s with hp := { s.hp with events := rest } } := by
  simp [popEventTaken, h]

/-! ## The lengths of the status record's parts (R158) -/

@[simp] theorem bytes2_length (n : Nat) : (bytes2 n).length = 2 := rfl

@[simp] theorem wordBytes_length (w : Word) : (wordBytes w).length = 2 := rfl

@[simp] theorem poolBytes_length (p : Option PoolRecord) : (poolBytes p).length = 4 := by cases p <;> rfl

@[simp] theorem tableStatus_length (t : Option Table) : (tableStatus t).length = 12 := by
  cases t <;> simp [tableStatus]

@[simp] theorem tuStatus_length (tu : Tu) : (tuStatus tu).length = 10 := by
  unfold tuStatus; split <;> simp

@[simp] theorem disagreementStatus_length (d : Option Disagreement) : (disagreementStatus d).length = 12 := by
  cases d <;> simp [disagreementStatus]

@[simp] theorem acStatus_length (p : Phase) (ac : Ac) : (acStatus p ac).length = 16 := by simp [acStatus]

@[simp] theorem headStatus_length (queue : List Request) : (headStatus queue).length = 4 := by cases queue <;> rfl

@[simp] theorem lifStatus_length (rate : Fin 4) (lif : Lif) : (lifStatus rate lif).length = 12 := by simp [lifStatus]

/-- The number of events held is the last byte of the record. -/
theorem statusRecord_events (s : State) : (statusRecord s)[59]? = some (loByte s.hp.events.length) := by
  unfold statusRecord
  rw [List.getElem?_append_right (by simp)]
  simp

/-- Settles O14, from the two outcomes of a post and the two of POP_EVENT. -/
theorem popEventTakesHead : Obligations.PopEventTakesHead := by
  intro e rest kind station amount cause s flag
  have hflag : classFlag kind = flag := by cases kind <;> rfl
  refine ⟨fun hroom => ?_, fun hfull hevents => ?_, fun hready => ⟨fun hnil => ?_, fun hcons => ?_, ?_⟩⟩
  · rw [Hp.post_of_room hroom, hflag]
  · rw [Hp.post_of_full hfull, hflag, hevents, markLast_append, flagQueue]
  · rw [exec_popEvent_of_ready hready, popEventTaken_of_nil hnil]; rfl
  · rw [exec_popEvent_of_ready hready, popEventTaken_of_cons hcons]; rfl
  · exact statusRecord_events s

end Sys2Proof.Machine
end

section
/-! PROOF. O16: START's checks on the stored block (R204). -/

namespace Sys2Proof.Machine

theorem startTaken_of_invalid {s : State} (hphase : s.mc.phase = .offline ∨ s.mc.phase = .fault)
    (hvalid : configValid s.hp.stored = false) : startTaken s = answer [refusedConfig] s := by
  have hstopped : ¬(s.mc.phase ≠ .offline ∧ s.mc.phase ≠ .fault) := by tauto
  rw [startTaken, if_neg hstopped, if_pos hvalid]

/-- Settles O16: the Boolean checks say the same field by field, `10 ∣ n` where the model tests `n % 10`. -/
theorem startChecksEveryField : Obligations.StartChecksEveryField := by
  unfold Obligations.StartChecksEveryField
  intro ok
  have hchecks : ∀ c : ConfigBlock, configValid c = true ↔ ok c := by
    intro c
    simp [ok, configValid, Nat.dvd_iff_mod_eq_zero, and_assoc]
  refine ⟨hchecks, fun s hready hphase hnot => ?_⟩
  have hvalid : configValid s.hp.stored = false := by rwa [← hchecks, Bool.not_eq_true] at hnot
  rw [exec_start_of_ready hready, startTaken_of_invalid hphase hvalid]; rfl

end Sys2Proof.Machine
end

section
/-! PROOF. O18: the flags, the enables and ATTN (R213 to R215). -/

namespace Sys2Proof.Machine

/-- ATTN tests a whole byte against 0 (R215): the same as one of its bits set. -/
theorem byte_ne_zero_iff (b : Byte) : b ≠ 0 ↔ ∃ i : Fin 8, b.getLsbD i = true := by
  constructor
  · intro hne
    by_contra! hnone
    refine hne (BitVec.eq_of_getLsbD_eq fun i hi => ?_)
    simpa using hnone ⟨i, hi⟩
  · rintro ⟨i, hi⟩ rfl
    simp at hi

theorem State.attn_iff {s : State} (h : s.inReset = false) :
    s.attn = true ↔ ∃ i : Fin 8, s.hp.flags.getLsbD i = true ∧ s.hp.enables.getLsbD i = true := by
  simp only [State.attn, h, Bool.not_false, Bool.true_and, bne_iff_ne, byte_ne_zero_iff, BitVec.getLsbD_and,
    Bool.and_eq_true]

/-- Settles O18; ATTN by the bits that the flags and the enables have in common. -/
theorem flagsAndEnablesWritten : Obligations.FlagsAndEnablesWritten := by
  intro v s
  refine ⟨fun hready => ?_, fun hready => ?_⟩
  · refine ⟨_, exec_writeEnables_of_ready hready, rfl, ?_⟩
    have hrunning : (writeEnablesTaken v s).inReset = false := inReset_of_ready (s := s) hready
    exact State.attn_iff hrunning
  · refine ⟨_, exec_clearFlags_of_ready hready, rfl, fun i => by simp [clearFlagsTaken], ?_⟩
    have hrunning : (clearFlagsTaken v s).inReset = false := inReset_of_ready (s := s) hready
    rw [State.attn_iff hrunning]
    simp [clearFlagsTaken]

end Sys2Proof.Machine
end

section
/-! SUPPORT. The stored configuration block under every operation: phases, transfers, applications and the line
post events and keep it (R202). An operation that posts nothing keeps all of HP. -/

namespace Sys2Proof.Machine

/-! ## Phases (chapter 3) -/

@[simp] theorem enterListen_stored (c : Cause) (s : State) : (enterListen c s).hp.stored = s.hp.stored := by
  simp [enterListen]
@[simp] theorem enterFounding_stored (s : State) : (enterFounding s).hp.stored = s.hp.stored := by simp [enterFounding]
@[simp] theorem ask_hp (n : Nat) (s : State) : (ask n s).hp = s.hp := by simp [ask]
@[simp] theorem enterSyncing_stored (c : Cause) (s : State) : (enterSyncing c s).hp.stored = s.hp.stored := by
  simp [enterSyncing]
@[simp] theorem enterJoining_stored (s : State) : (enterJoining s).hp.stored = s.hp.stored := by simp [enterJoining]
@[simp] theorem enterJoined_stored (s : State) : (enterJoined s).hp.stored = s.hp.stored := by simp [enterJoined]
@[simp] theorem endWatches_hp (s : State) : (endWatches s).hp = s.hp :=
  foldl_keeps (·.hp) _ (fun s _ => withdraw_hp _ _ s) _ _
@[simp] theorem endPeerTimers_hp (s : State) : (endPeerTimers s).hp = s.hp :=
  foldl_keeps (·.hp) _ (fun s _ => by simp) _ _
@[simp] theorem baLeave_hp (s : State) : (baLeave s).hp = s.hp := by
  unfold baLeave; dsimp only; (repeat' split) <;> simp
@[simp] theorem enterLeaving_stored (c : Cause) (s : State) : (enterLeaving c s).hp.stored = s.hp.stored := by
  simp [enterLeaving]
@[simp] theorem stopBlocks_hp (s : State) : (stopBlocks s).hp = s.hp := by simp [stopBlocks]
@[simp] theorem enterOut_stored (c : Cause) (s : State) : (enterOut c s).hp.stored = s.hp.stored := by
  unfold enterOut; dsimp only; rw [refresh_hp]; split <;> simp
@[simp] theorem enterFault_stored (c : Cause) (s : State) : (enterFault c s).hp.stored = s.hp.stored := by
  simp [enterFault]
@[simp] theorem enterOffline_stored (c : Cause) (s : State) : (enterOffline c s).hp.stored = s.hp.stored := by
  simp [enterOffline]
@[simp] theorem stopJoining_stored (c : Cause) (s : State) : (stopJoining c s).hp.stored = s.hp.stored := by
  unfold stopJoining; (repeat' split) <;> simp
@[simp] theorem cutPhase_stored (s : State) : (cutPhase s).hp.stored = s.hp.stored := by
  unfold cutPhase; split <;> simp
@[simp] theorem leaveEnded_hp (s : State) : (leaveEnded s).hp = s.hp := by unfold leaveEnded; split <;> simp
@[simp] theorem rejoin_stored (s : State) : (rejoin s).hp.stored = s.hp.stored := by
  unfold rejoin; (repeat' split) <;> simp

/-! ## Table transfer (chapter 4) -/

@[simp] theorem failAttempt_stored (s : State) : (failAttempt s).hp.stored = s.hp.stored := by
  unfold failAttempt; split <;> simp
@[simp] theorem finishCollection_stored (s : State) : (finishCollection s).hp.stored = s.hp.stored := by
  unfold finishCollection; split <;> simp
@[simp] theorem collect_stored (f : Frame) (s : State) : (collect f s).hp.stored = s.hp.stored := by
  unfold collect; dsimp only; (repeat' split) <;> simp
@[simp] theorem transferFrame_stored (f : Frame) (own : Bool) (s : State) :
    (transferFrame f own s).hp.stored = s.hp.stored := by
  unfold transferFrame; (repeat' split) <;> simp
@[simp] theorem answerSyncreq_hp (k : Station) (eff : Effect) (t : Table) (s : State) :
    (answerSyncreq k eff t s).hp = s.hp := by
  unfold answerSyncreq; dsimp only; (repeat' split) <;> simp
@[simp] theorem pieceApplied_hp (joiner : Nat) (base : Word) (index : Nat) (s : State) :
    (pieceApplied joiner base index s).hp = s.hp := by
  unfold pieceApplied; (repeat' split) <;> simp
@[simp] theorem tuNotice_hp (f : Frame) (own : Bool) (eff : Effect) (t : Table) (s : State) :
    (tuNotice f own eff t s).hp = s.hp := by
  unfold tuNotice; (repeat' split) <;> simp

/-! ## The application of a frame (section 1.5) -/

@[simp] theorem acCompare_hp (f : Frame) (own : Bool) (t : Table) (s : State) : (acCompare f own t s).hp = s.hp := by
  unfold acCompare; (repeat' split) <;> rfl
@[simp] theorem watchNotice_hp (f : Frame) (own : Bool) (before after : Image) (s : State) :
    (watchNotice f own before after s).hp = s.hp := by
  unfold watchNotice
  split
  · exact foldl_keeps (·.hp) _ (fun s _ => withdraw_hp _ _ s) _ _
  · rfl
@[simp] theorem postServed_stored (r : Served) (s : State) : (postServed r s).hp.stored = s.hp.stored :=
  foldl_keeps (·.hp.stored) _ (fun s v => by split <;> simp) _ _
@[simp] theorem postClaim_stored (o : ClaimOutcome) (s : State) : (postClaim o s).hp.stored = s.hp.stored := by
  unfold postClaim; dsimp only; (repeat' split) <;> simp
@[simp] theorem postRecalled_stored (as : List (Station × Nat)) (img : Image) (s : State) :
    (postRecalled as img s).hp.stored = s.hp.stored :=
  foldl_keeps (·.hp.stored) _ (fun s a => by split <;> simp) _ _
@[simp] theorem budgetEvents_stored (k : Station) (eff : Effect) (img : Image) (s : State) :
    (budgetEvents k eff img s).hp.stored = s.hp.stored := by
  unfold budgetEvents; (repeat' split) <;> simp
@[simp] theorem memberEvents_stored (k : Station) (eff : Effect) (s : State) :
    (memberEvents k eff s).hp.stored = s.hp.stored := by
  unfold memberEvents; (repeat' split) <;> simp
@[simp] theorem peerNotice_hp (k : Station) (before after : Image) (s : State) :
    (peerNotice k before after s).hp = s.hp := by
  have hfold (g : Station → Body) (ks : List Station) (s : State) :
      (ks.foldl (fun s k => mcWithdraw (g k) s) s).hp = s.hp :=
    foldl_keeps (·.hp) _ (fun s _ => mcWithdraw_hp _ s) _ _
  unfold peerNotice
  split
  · simp [hfold]
  · rfl
@[simp] theorem presenceNotice_hp (f : Frame) (own : Bool) (s : State) : (presenceNotice f own s).hp = s.hp := by
  unfold presenceNotice; dsimp only; (repeat' split) <;> simp
@[simp] theorem baNotice_hp (f : Frame) (own : Bool) (s : State) : (baNotice f own s).hp = s.hp := by
  unfold baNotice; (repeat' split) <;> rfl
@[simp] theorem duplicateRefusal_stored (s : State) : (duplicateRefusal s).hp.stored = s.hp.stored := by
  unfold duplicateRefusal; dsimp only; split <;> simp
@[simp] theorem lapsedRefusal_stored (s : State) : (lapsedRefusal s).hp.stored = s.hp.stored := by
  simp [lapsedRefusal]
@[simp] theorem joinRefusedOutcome_stored (r : JoinRefusal) (s : State) :
    (joinRefusedOutcome r s).hp.stored = s.hp.stored := by
  unfold joinRefusedOutcome; (repeat' split) <;> simp
@[simp] theorem joinAcceptedOutcome_stored (s : State) : (joinAcceptedOutcome s).hp.stored = s.hp.stored := by
  unfold joinAcceptedOutcome; split <;> simp
@[simp] theorem renewJoin_hp (s : State) : (renewJoin s).hp = s.hp := by simp [renewJoin]
@[simp] theorem joinerOutcome_stored (own : Bool) (eff : Effect) (f : Frame) (s : State) :
    (joinerOutcome own eff f s).hp.stored = s.hp.stored := by
  unfold joinerOutcome; (repeat' split) <;> simp
@[simp] theorem abandonFounding_stored (s : State) : (abandonFounding s).hp.stored = s.hp.stored := by
  simp [abandonFounding]
@[simp] theorem lateRefusal_stored (own : Bool) (eff : Effect) (s : State) :
    (lateRefusal own eff s).hp.stored = s.hp.stored := by
  unfold lateRefusal; (repeat' split) <;> simp
@[simp] theorem memberOutcome_stored (f : Frame) (own diverged : Bool) (eff : Effect) (s : State) :
    (memberOutcome f own diverged eff s).hp.stored = s.hp.stored := by
  unfold memberOutcome; (repeat' split) <;> simp
@[simp] theorem phaseOutcome_stored (f : Frame) (own diverged foreignOrder : Bool) (eff : Effect) (s : State) :
    (phaseOutcome f own diverged foreignOrder eff s).hp.stored = s.hp.stored := by
  unfold phaseOutcome; (repeat' split) <;> simp
@[simp] theorem clearJoinCounts_hp (own : Bool) (eff : Effect) (s : State) : (clearJoinCounts own eff s).hp = s.hp := by
  unfold clearJoinCounts; (repeat' split) <;> rfl
@[simp] theorem notices_stored (f : Frame) (own : Bool) (eff : Effect) (before after : Table) (s : State) :
    (notices f own eff before after s).hp.stored = s.hp.stored := by simp [notices]
@[simp] theorem applyFrame_stored (f : Frame) (own : Bool) (t : Table) (s : State) :
    (applyFrame f own t s).hp.stored = s.hp.stored := by simp [applyFrame]

/-! ## The share line (chapter 6) -/

@[simp] theorem takeBound_hp (b : Body) (s : State) : (takeBound b s).hp = s.hp := by unfold takeBound; split <;> simp
@[simp] theorem beginAttempt_hp (r : Request) (rest : List Request) (b : Body) (s : State) :
    (beginAttempt r rest b s).hp = s.hp := by simp [beginAttempt]
@[simp] theorem endBaSide_hp (k : FrameKind) (s : State) : (endBaSide k s).hp = s.hp := by
  unfold endBaSide; split <;> rfl
@[simp] theorem withdrawZero_hp (k : FrameKind) (rest : List Request) (s : State) :
    (withdrawZero k rest s).hp = s.hp := by simp [withdrawZero]
@[simp] theorem takeHead_hp (fuel : Nat) (s : State) : (takeHead fuel s).hp = s.hp := by
  induction fuel generalizing s with
  | zero => rfl
  | succ fuel ih => unfold takeHead; (repeat' split) <;> simp [ih]
@[simp] theorem reportBegun_hp (r : Request) (s : State) : (reportBegun r s).hp = s.hp := by
  unfold reportBegun; (repeat' split) <;> simp
@[simp] theorem endSenderByte_hp (a : Attempt) (s : State) : (endSenderByte a s).hp = s.hp := by
  unfold endSenderByte; dsimp only; (repeat' split) <;> simp
@[simp] theorem dropHead_hp (rest : List Request) (s : State) : (dropHead rest s).hp = s.hp := by simp [dropHead]
@[simp] theorem loseStart_hp (s : State) : (loseStart s).hp = s.hp := by
  unfold loseStart; dsimp only; (repeat' split) <;> simp
@[simp] theorem countFailure_stored (s : State) : (countFailure s).hp.stored = s.hp.stored := by
  unfold countFailure; (repeat' split) <;> simp
@[simp] theorem deliver_stored (f : Frame) (own : Bool) (s : State) : (deliver f own s).hp.stored = s.hp.stored := by
  unfold deliver; (repeat' split) <;> simp
@[simp] theorem settleStop_stored (s : State) : (settleStop s).hp.stored = s.hp.stored := by
  unfold settleStop; split <;> simp
@[simp] theorem reportAccepted_stored (k : FrameKind) (s : State) : (reportAccepted k s).hp.stored = s.hp.stored := by
  unfold reportAccepted; split <;> simp
@[simp] theorem acceptOwn_stored (f : Frame) (s : State) : (acceptOwn f s).hp.stored = s.hp.stored := by
  unfold acceptOwn; dsimp only; rw [shrink_hp]; split <;> simp
@[simp] theorem mcLapseAbandoned_hp (k : Station) (s : State) : (mcLapseAbandoned k s).hp = s.hp := by
  unfold mcLapseAbandoned; split <;> rfl
@[simp] theorem caLapseAbandoned_hp (k : Station) (s : State) : (caLapseAbandoned k s).hp = s.hp := by
  unfold caLapseAbandoned; split <;> simp
@[simp] theorem joinAbandoned_stored (s : State) : (joinAbandoned s).hp.stored = s.hp.stored := by
  unfold joinAbandoned; (repeat' split) <;> simp
@[simp] theorem leaveAbandoned_hp (s : State) : (leaveAbandoned s).hp = s.hp := by
  unfold leaveAbandoned; (repeat' split) <;> simp
@[simp] theorem claimAbandoned_hp (s : State) : (claimAbandoned s).hp = s.hp := by
  unfold claimAbandoned; split <;> rfl
@[simp] theorem freeAbandoned_hp (k : Station) (s : State) : (freeAbandoned k s).hp = s.hp := by
  unfold freeAbandoned; split <;> rfl
@[simp] theorem pieceAbandoned_hp (joiner : Nat) (base : Word) (s : State) :
    (pieceAbandoned joiner base s).hp = s.hp := by
  unfold pieceAbandoned; (repeat' split) <;> rfl
@[simp] theorem reportAbandoned_stored (r : Request) (s : State) : (reportAbandoned r s).hp.stored = s.hp.stored := by
  unfold reportAbandoned; dsimp only; (repeat' split) <;> simp
@[simp] theorem abandon_stored (r : Request) (rest : List Request) (s : State) :
    (abandon r rest s).hp.stored = s.hp.stored := by simp [abandon, postAbandoned]
@[simp] theorem voidOwn_stored (s : State) : (voidOwn s).hp.stored = s.hp.stored := by
  unfold voidOwn; (repeat' split) <;> simp
@[simp] theorem endOwnFrame_stored (a : Attempt) (readOk objected : Bool) (s : State) :
    (endOwnFrame a readOk objected s).hp.stored = s.hp.stored := by
  unfold endOwnFrame; dsimp only; (repeat' split) <;> simp
@[simp] theorem setSender_hp (first : RxChar) (s : State) : (setSender first s).hp = s.hp := by
  unfold setSender; split <;> rfl
@[simp] theorem failForeign_stored (k : FailKind) (s : State) : (failForeign k s).hp.stored = s.hp.stored := by
  simp [failForeign]
@[simp] theorem endForeignFrame_stored (chars : List RxChar) (objected : Bool) (s : State) :
    (endForeignFrame chars objected s).hp.stored = s.hp.stored := by
  unfold endForeignFrame; dsimp only; (repeat' split) <;> simp
@[simp] theorem settleSenderByte_hp (first : RxChar) (s : State) : (settleSenderByte first s).hp = s.hp := by
  unfold settleSenderByte; (repeat' split) <;> simp
@[simp] theorem endFrame_stored (chars : List RxChar) (objected : Bool) (s : State) :
    (endFrame chars objected s).hp.stored = s.hp.stored := by
  unfold endFrame; dsimp only; (repeat' split) <;> simp
@[simp] theorem settledAttempt_hp (a : Attempt) (s : State) : (settledAttempt a s).hp = s.hp := by
  unfold settledAttempt; split <;> simp
@[simp] theorem rejoinExpired_stored (s : State) : (rejoinExpired s).hp.stored = s.hp.stored := by
  unfold rejoinExpired; split <;> simp
@[simp] theorem thermalChange_stored (sample : Int) (after : Thermal) (s : State) :
    (thermalChange sample after s).hp.stored = s.hp.stored := by
  unfold thermalChange; dsimp only; rw [refresh_hp]; split <;> simp

end Sys2Proof.Machine
end

section
/-! PROOF. O15: WRITE_CONFIG, and the commands that change the stored block (R202). -/

namespace Sys2Proof.Machine

/-! ## WRITE_CONFIG -/

theorem writeConfigTaken_of_stopped {s : State} (h : s.mc.phase = .offline ∨ s.mc.phase = .fault)
    (block : ConfigBlock) :
    writeConfigTaken block s = answer [accepted] { s with hp := { s.hp with stored := block } } := if_pos h

theorem writeConfigTaken_of_running {s : State} (hoffline : s.mc.phase ≠ .offline) (hfault : s.mc.phase ≠ .fault)
    (block : ConfigBlock) : writeConfigTaken block s = answer [refusedPhase] s :=
  if_neg (not_or.mpr ⟨hoffline, hfault⟩)

/-! ## The other host commands -/

@[simp] theorem unknownTaken_stored (s : State) : (unknownTaken s).hp.stored = s.hp.stored := rfl
@[simp] theorem readStatusTaken_stored (s : State) : (readStatusTaken s).hp.stored = s.hp.stored := rfl
@[simp] theorem readEntryTaken_stored (entry : Nat) (s : State) : (readEntryTaken entry s).hp.stored = s.hp.stored := by
  unfold readEntryTaken; (repeat' split) <;> rfl
@[simp] theorem readWaitListTaken_stored (s : State) : (readWaitListTaken s).hp.stored = s.hp.stored := by
  unfold readWaitListTaken; split <;> rfl
@[simp] theorem readChannelTaken_stored (channel : Nat) (s : State) :
    (readChannelTaken channel s).hp.stored = s.hp.stored := by
  unfold readChannelTaken; split <;> rfl
@[simp] theorem readConfigTaken_stored (s : State) : (readConfigTaken s).hp.stored = s.hp.stored := rfl
@[simp] theorem readFlagsTaken_stored (s : State) : (readFlagsTaken s).hp.stored = s.hp.stored := rfl
@[simp] theorem popEventTaken_stored (s : State) : (popEventTaken s).hp.stored = s.hp.stored := by
  unfold popEventTaken; split <;> rfl
@[simp] theorem setDemandTaken_stored (channel demand : Nat) (s : State) :
    (setDemandTaken channel demand s).hp.stored = s.hp.stored := by
  unfold setDemandTaken; (repeat' split) <;> simp
@[simp] theorem writeEnablesTaken_stored (v : Byte) (s : State) :
    (writeEnablesTaken v s).hp.stored = s.hp.stored := rfl
@[simp] theorem clearFlagsTaken_stored (mask : Byte) (s : State) :
    (clearFlagsTaken mask s).hp.stored = s.hp.stored := rfl
@[simp] theorem clearFaultTaken_stored (channel : Nat) (s : State) :
    (clearFaultTaken channel s).hp.stored = s.hp.stored := by
  unfold clearFaultTaken; (repeat' split) <;> simp
@[simp] theorem startTaken_stored (s : State) : (startTaken s).hp.stored = s.hp.stored := by
  unfold startTaken; (repeat' split) <;> simp
@[simp] theorem stopTaken_stored (s : State) : (stopTaken s).hp.stored = s.hp.stored := by
  unfold stopTaken; split <;> simp
@[simp] theorem resetTaken_stored (s : State) : (resetTaken s).hp.stored = s.hp.stored := rfl

/-- Of the commands that the port's bytes spell, WRITE_CONFIG alone changes the stored block. -/
theorem runCommand_stored {code : Byte} (h : code ≠ codeWriteConfig) (params : List Byte) (s : State) :
    (runCommand code params s).hp.stored = s.hp.stored := by
  unfold runCommand
  split
  · (repeat' split) <;> simp
  · (repeat' split) <;> simp
  · split <;> simp
  · split <;> simp [h]

theorem parameterCount_writeConfig : parameterCount codeWriteConfig = some 25 := by decide

theorem commandByte_stored (data : Byte) (s : State) : (commandByte data s).hp.stored = s.hp.stored := by
  unfold commandByte
  split
  · rfl
  · next hcount =>
    have hcode : data ≠ codeWriteConfig := by
      rintro rfl
      simp [parameterCount_writeConfig] at hcount
    exact runCommand_stored hcode [] s
  · rfl

theorem parameterByte_stored {code : Byte} (h : code ≠ codeWriteConfig) (got : List Byte) (data : Byte) (s : State) :
    (parameterByte code got data s).hp.stored = s.hp.stored := by
  unfold parameterByte
  split
  · exact runCommand_stored h _ s
  · rfl

@[simp] theorem responseByte_stored (rest : List Byte) (s : State) : (responseByte rest s).hp.stored = s.hp.stored := by
  unfold responseByte; split <;> rfl

theorem taken_stored (code : Byte) (params : List Byte) {effect : State → State} {s : State}
    (h : (effect s).hp.stored = s.hp.stored) : (taken code params effect s).hp.stored = s.hp.stored := by
  unfold taken; split
  · exact h
  · rfl

/-! ## Every command -/

/-- The outcome is a next state, with the stored block of `s`. -/
def KeepsStored (s : State) (o : Host.Outcome State Fault Refusal) : Prop :=
  Completes o fun t => t.hp.stored = s.hp.stored

@[simp] theorem keepsStored_next {s t : State} : KeepsStored s (.next t) ↔ t.hp.stored = s.hp.stored :=
  completes_next t _

theorem keepsStored_taken (code : Byte) (params : List Byte) {effect : State → State} {s : State}
    (h : (effect s).hp.stored = s.hp.stored) : KeepsStored s (.next (taken code params effect s)) :=
  keepsStored_next.mpr (taken_stored code params h)

/-- The command can change the stored block (R202, R216). -/
def MayChangeStored (c : Instr) (s : State) : Prop :=
  c = .powerOnReset ∨ c = .resetnLow ∨ (∃ n r, c = .resetEnd n r) ∨ (∃ b, c = .writeConfig b) ∨
    ∃ d got, c = .hostByteComplete d ∧ s.hp.port = .parameters codeWriteConfig got

theorem execHostByteComplete_keepsStored {s : State} (h : ∀ got, s.hp.port ≠ .parameters codeWriteConfig got)
    (data : Byte) : KeepsStored s (execHostByteComplete data s) := by
  unfold execHostByteComplete
  split
  · simp
  split
  · simp
  · exact keepsStored_next.mpr (commandByte_stored data s)
  · next code got hport =>
    have hcode : code ≠ codeWriteConfig := by
      rintro rfl
      exact h got hport
    exact keepsStored_next.mpr (parameterByte_stored hcode got data s)
  · simp
  · simp

/-! ## The pins of the port -/

theorem execChipSelectFall_keepsStored (s : State) : KeepsStored s (execChipSelectFall s) := by
  unfold execChipSelectFall; (repeat' split) <;> simp
theorem execChipSelectRise_keepsStored (s : State) : KeepsStored s (execChipSelectRise s) := by
  unfold execChipSelectRise; split <;> simp
theorem execUnknownCommand_keepsStored (code : Byte) (s : State) : KeepsStored s (execUnknownCommand code s) := by
  unfold execUnknownCommand; split <;> simp

/-! ## The share line (chapter 6) -/

theorem execGridAcquired_keepsStored (s : State) : KeepsStored s (execGridAcquired s) := by
  unfold execGridAcquired; split <;> simp
theorem execAttemptStart_keepsStored (s : State) : KeepsStored s (execAttemptStart s) := by
  unfold execAttemptStart; split <;> simp
theorem execLostStart_keepsStored (s : State) : KeepsStored s (execLostStart s) := by
  unfold execLostStart; (repeat' split) <;> simp
theorem execSenderByteEnd_keepsStored (s : State) : KeepsStored s (execSenderByteEnd s) := by
  unfold execSenderByteEnd; (repeat' split) <;> simp
theorem execFrameReceptionStart_keepsStored (first : RxChar) (s : State) :
    KeepsStored s (execFrameReceptionStart first s) := by
  unfold execFrameReceptionStart; (repeat' split) <;> simp
theorem execFrameReceived_keepsStored (chars : List RxChar) (objected : Bool) (s : State) :
    KeepsStored s (execFrameReceived chars objected s) := by
  unfold execFrameReceived; split <;> simp
theorem execTruncatedFrame_keepsStored (first : RxChar) (s : State) : KeepsStored s (execTruncatedFrame first s) := by
  unfold execTruncatedFrame; (repeat' split) <;> simp
theorem execRequestAbandoned_keepsStored (s : State) : KeepsStored s (execRequestAbandoned s) := by
  unfold execRequestAbandoned; (repeat' split) <;> simp
theorem execSelfObjectionLimit_keepsStored (failure : FailKind) (s : State) :
    KeepsStored s (execSelfObjectionLimit failure s) := by
  unfold execSelfObjectionLimit; (repeat' split) <;> simp

/-! ## Samples, boundaries and fault inputs (chapters 8 and 9) -/

theorem execThermalSample_keepsStored (reading : Int) (s : State) : KeepsStored s (execThermalSample reading s) := by
  unfold execThermalSample; dsimp only; (repeat' split) <;> simp
theorem execPeriodBoundary_keepsStored (s : State) : KeepsStored s (execPeriodBoundary s) := by
  unfold execPeriodBoundary; split <;> simp
theorem execFaultInputAsserted_keepsStored (channel : Channel) (s : State) :
    KeepsStored s (execFaultInputAsserted channel s) := by
  unfold execFaultInputAsserted; dsimp only; (repeat' split) <;> simp
theorem execFaultInputReleased_keepsStored (channel : Channel) (s : State) :
    KeepsStored s (execFaultInputReleased channel s) := by
  simp [execFaultInputReleased]

/-! ## Timers -/

theorem execListenTimerExpiry_keepsStored (s : State) : KeepsStored s (execListenTimerExpiry s) := by
  unfold execListenTimerExpiry; split <;> simp
theorem execPresenceTimerExpiry_keepsStored (s : State) : KeepsStored s (execPresenceTimerExpiry s) := by
  unfold execPresenceTimerExpiry; split <;> simp
theorem execLastHeardTimerExpiry_keepsStored (peer : Station) (s : State) :
    KeepsStored s (execLastHeardTimerExpiry peer s) := by
  unfold execLastHeardTimerExpiry; split <;> simp
theorem execQuarantineTimerExpiry_keepsStored (peer : Station) (s : State) :
    KeepsStored s (execQuarantineTimerExpiry peer s) := by
  unfold execQuarantineTimerExpiry; split <;> simp
theorem execRejoinTimerExpiry_keepsStored (s : State) : KeepsStored s (execRejoinTimerExpiry s) := by
  unfold execRejoinTimerExpiry; split <;> simp
theorem execRecallTimerExpiry_keepsStored (debtor : Station) (s : State) :
    KeepsStored s (execRecallTimerExpiry debtor s) := by
  unfold execRecallTimerExpiry; split <;> simp
theorem execSyncTimerExpiry_keepsStored (s : State) : KeepsStored s (execSyncTimerExpiry s) := by
  unfold execSyncTimerExpiry; split <;> simp
theorem execDoubtTimerExpiry_keepsStored (s : State) : KeepsStored s (execDoubtTimerExpiry s) := by
  unfold execDoubtTimerExpiry; split <;> simp
theorem execReleaseIdleTimerExpiry_keepsStored (s : State) : KeepsStored s (execReleaseIdleTimerExpiry s) := by
  unfold execReleaseIdleTimerExpiry; split <;> simp
theorem execHoldoffTimerExpiry_keepsStored (s : State) : KeepsStored s (execHoldoffTimerExpiry s) := by
  unfold execHoldoffTimerExpiry; split <;> simp

/-! ## The statement -/

theorem exec_mayChangeStored_or_keepsStored (c : Instr) (s : State) :
    MayChangeStored c s ∨ KeepsStored s (exec c s) := by
  cases c with
  | powerOnReset => exact .inl (by simp [MayChangeStored])
  | resetnLow => exact .inl (by simp [MayChangeStored])
  | resetEnd n r => exact .inl (by simp [MayChangeStored])
  | writeConfig b => exact .inl (by simp [MayChangeStored])
  | hostByteComplete d =>
    by_cases h : ∃ got, s.hp.port = .parameters codeWriteConfig got
    · exact .inl (by simpa [MayChangeStored] using h)
    · exact .inr (execHostByteComplete_keepsStored (not_exists.mp h) d)
  | chipSelectFall => exact .inr (execChipSelectFall_keepsStored s)
  | chipSelectRise => exact .inr (execChipSelectRise_keepsStored s)
  | unknownCommand code => exact .inr (execUnknownCommand_keepsStored code s)
  | readStatus => exact .inr (keepsStored_taken _ _ (readStatusTaken_stored s))
  | readEntry entry => exact .inr (keepsStored_taken _ _ (readEntryTaken_stored entry s))
  | readWaitList => exact .inr (keepsStored_taken _ _ (readWaitListTaken_stored s))
  | readChannel channel => exact .inr (keepsStored_taken _ _ (readChannelTaken_stored channel s))
  | readConfig => exact .inr (keepsStored_taken _ _ (readConfigTaken_stored s))
  | readFlags => exact .inr (keepsStored_taken _ _ (readFlagsTaken_stored s))
  | popEvent => exact .inr (keepsStored_taken _ _ (popEventTaken_stored s))
  | setDemand channel demand => exact .inr (keepsStored_taken _ _ (setDemandTaken_stored channel demand s))
  | writeEnables enables => exact .inr (keepsStored_taken _ _ (writeEnablesTaken_stored enables s))
  | clearFlags mask => exact .inr (keepsStored_taken _ _ (clearFlagsTaken_stored mask s))
  | clearFault channel => exact .inr (keepsStored_taken _ _ (clearFaultTaken_stored channel s))
  | start => exact .inr (keepsStored_taken _ _ (startTaken_stored s))
  | stop => exact .inr (keepsStored_taken _ _ (stopTaken_stored s))
  | reset => exact .inr (keepsStored_taken _ _ (resetTaken_stored s))
  | gridAcquired => exact .inr (execGridAcquired_keepsStored s)
  | attemptStart => exact .inr (execAttemptStart_keepsStored s)
  | lostStart => exact .inr (execLostStart_keepsStored s)
  | senderByteEnd => exact .inr (execSenderByteEnd_keepsStored s)
  | frameReceptionStart first => exact .inr (execFrameReceptionStart_keepsStored first s)
  | frameReceived chars objected => exact .inr (execFrameReceived_keepsStored chars objected s)
  | truncatedFrame first => exact .inr (execTruncatedFrame_keepsStored first s)
  | requestAbandoned => exact .inr (execRequestAbandoned_keepsStored s)
  | selfObjectionLimit failure => exact .inr (execSelfObjectionLimit_keepsStored failure s)
  | thermalSample reading => exact .inr (execThermalSample_keepsStored reading s)
  | periodBoundary => exact .inr (execPeriodBoundary_keepsStored s)
  | faultInputAsserted channel => exact .inr (execFaultInputAsserted_keepsStored channel s)
  | faultInputReleased channel => exact .inr (execFaultInputReleased_keepsStored channel s)
  | listenTimerExpiry => exact .inr (execListenTimerExpiry_keepsStored s)
  | presenceTimerExpiry => exact .inr (execPresenceTimerExpiry_keepsStored s)
  | lastHeardTimerExpiry peer => exact .inr (execLastHeardTimerExpiry_keepsStored peer s)
  | quarantineTimerExpiry peer => exact .inr (execQuarantineTimerExpiry_keepsStored peer s)
  | rejoinTimerExpiry => exact .inr (execRejoinTimerExpiry_keepsStored s)
  | recallTimerExpiry debtor => exact .inr (execRecallTimerExpiry_keepsStored debtor s)
  | syncTimerExpiry => exact .inr (execSyncTimerExpiry_keepsStored s)
  | doubtTimerExpiry => exact .inr (execDoubtTimerExpiry_keepsStored s)
  | releaseIdleTimerExpiry => exact .inr (execReleaseIdleTimerExpiry_keepsStored s)
  | holdoffTimerExpiry => exact .inr (execHoldoffTimerExpiry_keepsStored s)

/-- Settles O15: its own row by phase, and every other command by what it keeps. -/
theorem writeConfigStoresBlock : Obligations.WriteConfigStoresBlock := by
  refine ⟨fun block s hready => ⟨fun hstopped => ?_, fun hoffline hfault => ?_⟩,
    fun c s t hexec hne => ?_, fun s => ⟨⟨hardReset s, rfl, rfl⟩, ⟨hardReset s, rfl, rfl⟩⟩⟩
  · rw [exec_writeConfig_of_ready hready, writeConfigTaken_of_stopped hstopped]; rfl
  · rw [exec_writeConfig_of_ready hready, writeConfigTaken_of_running hoffline hfault]; rfl
  · obtain hmay | hkeeps := exec_mayChangeStored_or_keepsStored c s
    · exact hmay
    · rw [hexec, keepsStored_next] at hkeeps
      exact absurd hkeeps hne

end Sys2Proof.Machine
end
